-- ==== Sys2Proof/Word.lean ====
section
/-! DEFINITION. The two word types of the machine: bytes and 16-bit words (spec 00_scope.md R6). -/

namespace Sys2Proof

/-- A byte: 8 bits (R6). -/
abbrev Byte := BitVec 8

/-- A word: 16 bits; the width of PC, SP, a register pair and an address (R4, R6). -/
abbrev Word := BitVec 16

end Sys2Proof
end

