-- ==== Sys2Proof/Syntax.lean ====
section
/-! DEFINITION. The instruction set: the operand fields of an opcode byte (spec 30_encoding.md R63 to R69) and `Instr`,
one constructor per row of spec/opcode_table.json (R73, R76, R77). A constructor's name is the row's mnemonic: the operation in
small letters, then its operands as the spec writes them; `at` marks a memory operand (`ld_atHL_B` is `LD (HL),B`),
`atHLinc` and `atHLdec` are `(HL+)` and `(HL-)`, `SPe8` is `SP+e8`. Immediate operands are the constructor's arguments. -/

namespace Sys2Proof

/-- The seven registers a register code can name (R20, R64). -/
inductive Reg8 where
  | b | c | d | e | h | l | a
deriving DecidableEq, Repr

/-- What a 3-bit register code names: a register, or for code 6 the byte at address HL (R64). -/
inductive Operand8 where
  | reg (r : Reg8)
  | atHL
deriving DecidableEq, Repr

/-- The 16-bit registers of LD rr,d16, ADD HL,rr, INC rr and DEC rr (R65). -/
inductive Pair where
  | bc | de | hl | sp
deriving DecidableEq, Repr

/-- The 16-bit registers of PUSH and POP (R66). -/
inductive StackPair where
  | bc | de | hl | af
deriving DecidableEq, Repr

/-- The condition codes (R67, R190). -/
inductive Cond where
  | nz | z | nc | c
deriving DecidableEq, Repr

/-- The eight accumulator operations (R68). -/
inductive AluOp where
  | add | adc | sub | sbc | and | xor | or | cp
deriving DecidableEq, Repr

/-- The eight rotate and shift operations of the extended table (R69). -/
inductive RotOp where
  | rlc | rrc | rl | rr | sla | sra | swap | srl
deriving DecidableEq, Repr

/-- The instructions: one constructor per row of spec/opcode_table.json. The rows with an immediate operand stand first (Lean's
compiler numbers the constructors that carry data and allows them only small numbers), then the others; each part in the table's order. -/
inductive Instr where
  /-- 0x01: LD BC,d16 (R120). -/
  | ld_BC_d16 (d16 : Word)
  /-- 0x06: LD B,d8 (R101). -/
  | ld_B_d8 (d8 : Byte)
  /-- 0x08: LD (a16),SP (R121). -/
  | ld_atA16_SP (a16 : Word)
  /-- 0x0E: LD C,d8 (R101). -/
  | ld_C_d8 (d8 : Byte)
  /-- 0x11: LD DE,d16 (R120). -/
  | ld_DE_d16 (d16 : Word)
  /-- 0x16: LD D,d8 (R101). -/
  | ld_D_d8 (d8 : Byte)
  /-- 0x18: JR e8 (R194). -/
  | jr_e8 (e8 : Byte)
  /-- 0x1E: LD E,d8 (R101). -/
  | ld_E_d8 (d8 : Byte)
  /-- 0x20: JR NZ,e8 (R195). -/
  | jr_NZ_e8 (e8 : Byte)
  /-- 0x21: LD HL,d16 (R120). -/
  | ld_HL_d16 (d16 : Word)
  /-- 0x26: LD H,d8 (R101). -/
  | ld_H_d8 (d8 : Byte)
  /-- 0x28: JR Z,e8 (R195). -/
  | jr_Z_e8 (e8 : Byte)
  /-- 0x2E: LD L,d8 (R101). -/
  | ld_L_d8 (d8 : Byte)
  /-- 0x30: JR NC,e8 (R195). -/
  | jr_NC_e8 (e8 : Byte)
  /-- 0x31: LD SP,d16 (R120). -/
  | ld_SP_d16 (d16 : Word)
  /-- 0x36: LD (HL),d8 (R104). -/
  | ld_atHL_d8 (d8 : Byte)
  /-- 0x38: JR C,e8 (R195). -/
  | jr_C_e8 (e8 : Byte)
  /-- 0x3E: LD A,d8 (R101). -/
  | ld_A_d8 (d8 : Byte)
  /-- 0xC2: JP NZ,a16 (R192). -/
  | jp_NZ_a16 (a16 : Word)
  /-- 0xC3: JP a16 (R191). -/
  | jp_a16 (a16 : Word)
  /-- 0xC4: CALL NZ,a16 (R197). -/
  | call_NZ_a16 (a16 : Word)
  /-- 0xC6: ADD A,d8 (R131). -/
  | add_A_d8 (d8 : Byte)
  /-- 0xCA: JP Z,a16 (R192). -/
  | jp_Z_a16 (a16 : Word)
  /-- 0xCB: PREFIX CB (R215). -/
  | prefix_CB (ext : Byte)
  /-- 0xCC: CALL Z,a16 (R197). -/
  | call_Z_a16 (a16 : Word)
  /-- 0xCD: CALL a16 (R196). -/
  | call_a16 (a16 : Word)
  /-- 0xCE: ADC A,d8 (R132). -/
  | adc_A_d8 (d8 : Byte)
  /-- 0xD2: JP NC,a16 (R192). -/
  | jp_NC_a16 (a16 : Word)
  /-- 0xD4: CALL NC,a16 (R197). -/
  | call_NC_a16 (a16 : Word)
  /-- 0xD6: SUB A,d8 (R133). -/
  | sub_A_d8 (d8 : Byte)
  /-- 0xDA: JP C,a16 (R192). -/
  | jp_C_a16 (a16 : Word)
  /-- 0xDC: CALL C,a16 (R197). -/
  | call_C_a16 (a16 : Word)
  /-- 0xDE: SBC A,d8 (R134). -/
  | sbc_A_d8 (d8 : Byte)
  /-- 0xE0: LDH (a8),A (R114). -/
  | ldh_atA8_A (a8 : Byte)
  /-- 0xE6: AND A,d8 (R135). -/
  | and_A_d8 (d8 : Byte)
  /-- 0xE8: ADD SP,e8 (R153). -/
  | add_SP_e8 (e8 : Byte)
  /-- 0xEA: LD (a16),A (R110). -/
  | ld_atA16_A (a16 : Word)
  /-- 0xEE: XOR A,d8 (R136). -/
  | xor_A_d8 (d8 : Byte)
  /-- 0xF0: LDH A,(a8) (R113). -/
  | ldh_A_atA8 (a8 : Byte)
  /-- 0xF6: OR A,d8 (R137). -/
  | or_A_d8 (d8 : Byte)
  /-- 0xF8: LD HL,SP+e8 (R123). -/
  | ld_HL_SPe8 (e8 : Byte)
  /-- 0xFA: LD A,(a16) (R109). -/
  | ld_A_atA16 (a16 : Word)
  /-- 0xFE: CP A,d8 (R138). -/
  | cp_A_d8 (d8 : Byte)
  /-- 0x00: NOP (R210). -/
  | nop
  /-- 0x02: LD (BC),A (R107). -/
  | ld_atBC_A
  /-- 0x03: INC BC (R151). -/
  | inc_BC
  /-- 0x04: INC B (R139). -/
  | inc_B
  /-- 0x05: DEC B (R141). -/
  | dec_B
  /-- 0x07: RLCA (R160). -/
  | rlca
  /-- 0x09: ADD HL,BC (R150). -/
  | add_HL_BC
  /-- 0x0A: LD A,(BC) (R105). -/
  | ld_A_atBC
  /-- 0x0B: DEC BC (R152). -/
  | dec_BC
  /-- 0x0C: INC C (R139). -/
  | inc_C
  /-- 0x0D: DEC C (R141). -/
  | dec_C
  /-- 0x0F: RRCA (R161). -/
  | rrca
  /-- 0x10: STOP (R211). -/
  | stop
  /-- 0x12: LD (DE),A (R108). -/
  | ld_atDE_A
  /-- 0x13: INC DE (R151). -/
  | inc_DE
  /-- 0x14: INC D (R139). -/
  | inc_D
  /-- 0x15: DEC D (R141). -/
  | dec_D
  /-- 0x17: RLA (R162). -/
  | rla
  /-- 0x19: ADD HL,DE (R150). -/
  | add_HL_DE
  /-- 0x1A: LD A,(DE) (R106). -/
  | ld_A_atDE
  /-- 0x1B: DEC DE (R152). -/
  | dec_DE
  /-- 0x1C: INC E (R139). -/
  | inc_E
  /-- 0x1D: DEC E (R141). -/
  | dec_E
  /-- 0x1F: RRA (R163). -/
  | rra
  /-- 0x22: LD (HL+),A (R115). -/
  | ld_atHLinc_A
  /-- 0x23: INC HL (R151). -/
  | inc_HL
  /-- 0x24: INC H (R139). -/
  | inc_H
  /-- 0x25: DEC H (R141). -/
  | dec_H
  /-- 0x27: DAA (R143). -/
  | daa
  /-- 0x29: ADD HL,HL (R150). -/
  | add_HL_HL
  /-- 0x2A: LD A,(HL+) (R116). -/
  | ld_A_atHLinc
  /-- 0x2B: DEC HL (R152). -/
  | dec_HL
  /-- 0x2C: INC L (R139). -/
  | inc_L
  /-- 0x2D: DEC L (R141). -/
  | dec_L
  /-- 0x2F: CPL (R144). -/
  | cpl
  /-- 0x32: LD (HL-),A (R117). -/
  | ld_atHLdec_A
  /-- 0x33: INC SP (R151). -/
  | inc_SP
  /-- 0x34: INC (HL) (R140). -/
  | inc_atHL
  /-- 0x35: DEC (HL) (R142). -/
  | dec_atHL
  /-- 0x37: SCF (R145). -/
  | scf
  /-- 0x39: ADD HL,SP (R150). -/
  | add_HL_SP
  /-- 0x3A: LD A,(HL-) (R118). -/
  | ld_A_atHLdec
  /-- 0x3B: DEC SP (R152). -/
  | dec_SP
  /-- 0x3C: INC A (R139). -/
  | inc_A
  /-- 0x3D: DEC A (R141). -/
  | dec_A
  /-- 0x3F: CCF (R146). -/
  | ccf
  /-- 0x40: LD B,B (R100). -/
  | ld_B_B
  /-- 0x41: LD B,C (R100). -/
  | ld_B_C
  /-- 0x42: LD B,D (R100). -/
  | ld_B_D
  /-- 0x43: LD B,E (R100). -/
  | ld_B_E
  /-- 0x44: LD B,H (R100). -/
  | ld_B_H
  /-- 0x45: LD B,L (R100). -/
  | ld_B_L
  /-- 0x46: LD B,(HL) (R102). -/
  | ld_B_atHL
  /-- 0x47: LD B,A (R100). -/
  | ld_B_A
  /-- 0x48: LD C,B (R100). -/
  | ld_C_B
  /-- 0x49: LD C,C (R100). -/
  | ld_C_C
  /-- 0x4A: LD C,D (R100). -/
  | ld_C_D
  /-- 0x4B: LD C,E (R100). -/
  | ld_C_E
  /-- 0x4C: LD C,H (R100). -/
  | ld_C_H
  /-- 0x4D: LD C,L (R100). -/
  | ld_C_L
  /-- 0x4E: LD C,(HL) (R102). -/
  | ld_C_atHL
  /-- 0x4F: LD C,A (R100). -/
  | ld_C_A
  /-- 0x50: LD D,B (R100). -/
  | ld_D_B
  /-- 0x51: LD D,C (R100). -/
  | ld_D_C
  /-- 0x52: LD D,D (R100). -/
  | ld_D_D
  /-- 0x53: LD D,E (R100). -/
  | ld_D_E
  /-- 0x54: LD D,H (R100). -/
  | ld_D_H
  /-- 0x55: LD D,L (R100). -/
  | ld_D_L
  /-- 0x56: LD D,(HL) (R102). -/
  | ld_D_atHL
  /-- 0x57: LD D,A (R100). -/
  | ld_D_A
  /-- 0x58: LD E,B (R100). -/
  | ld_E_B
  /-- 0x59: LD E,C (R100). -/
  | ld_E_C
  /-- 0x5A: LD E,D (R100). -/
  | ld_E_D
  /-- 0x5B: LD E,E (R100). -/
  | ld_E_E
  /-- 0x5C: LD E,H (R100). -/
  | ld_E_H
  /-- 0x5D: LD E,L (R100). -/
  | ld_E_L
  /-- 0x5E: LD E,(HL) (R102). -/
  | ld_E_atHL
  /-- 0x5F: LD E,A (R100). -/
  | ld_E_A
  /-- 0x60: LD H,B (R100). -/
  | ld_H_B
  /-- 0x61: LD H,C (R100). -/
  | ld_H_C
  /-- 0x62: LD H,D (R100). -/
  | ld_H_D
  /-- 0x63: LD H,E (R100). -/
  | ld_H_E
  /-- 0x64: LD H,H (R100). -/
  | ld_H_H
  /-- 0x65: LD H,L (R100). -/
  | ld_H_L
  /-- 0x66: LD H,(HL) (R102). -/
  | ld_H_atHL
  /-- 0x67: LD H,A (R100). -/
  | ld_H_A
  /-- 0x68: LD L,B (R100). -/
  | ld_L_B
  /-- 0x69: LD L,C (R100). -/
  | ld_L_C
  /-- 0x6A: LD L,D (R100). -/
  | ld_L_D
  /-- 0x6B: LD L,E (R100). -/
  | ld_L_E
  /-- 0x6C: LD L,H (R100). -/
  | ld_L_H
  /-- 0x6D: LD L,L (R100). -/
  | ld_L_L
  /-- 0x6E: LD L,(HL) (R102). -/
  | ld_L_atHL
  /-- 0x6F: LD L,A (R100). -/
  | ld_L_A
  /-- 0x70: LD (HL),B (R103). -/
  | ld_atHL_B
  /-- 0x71: LD (HL),C (R103). -/
  | ld_atHL_C
  /-- 0x72: LD (HL),D (R103). -/
  | ld_atHL_D
  /-- 0x73: LD (HL),E (R103). -/
  | ld_atHL_E
  /-- 0x74: LD (HL),H (R103). -/
  | ld_atHL_H
  /-- 0x75: LD (HL),L (R103). -/
  | ld_atHL_L
  /-- 0x76: HALT (R212). -/
  | halt
  /-- 0x77: LD (HL),A (R103). -/
  | ld_atHL_A
  /-- 0x78: LD A,B (R100). -/
  | ld_A_B
  /-- 0x79: LD A,C (R100). -/
  | ld_A_C
  /-- 0x7A: LD A,D (R100). -/
  | ld_A_D
  /-- 0x7B: LD A,E (R100). -/
  | ld_A_E
  /-- 0x7C: LD A,H (R100). -/
  | ld_A_H
  /-- 0x7D: LD A,L (R100). -/
  | ld_A_L
  /-- 0x7E: LD A,(HL) (R102). -/
  | ld_A_atHL
  /-- 0x7F: LD A,A (R100). -/
  | ld_A_A
  /-- 0x80: ADD A,B (R131). -/
  | add_A_B
  /-- 0x81: ADD A,C (R131). -/
  | add_A_C
  /-- 0x82: ADD A,D (R131). -/
  | add_A_D
  /-- 0x83: ADD A,E (R131). -/
  | add_A_E
  /-- 0x84: ADD A,H (R131). -/
  | add_A_H
  /-- 0x85: ADD A,L (R131). -/
  | add_A_L
  /-- 0x86: ADD A,(HL) (R131). -/
  | add_A_atHL
  /-- 0x87: ADD A,A (R131). -/
  | add_A_A
  /-- 0x88: ADC A,B (R132). -/
  | adc_A_B
  /-- 0x89: ADC A,C (R132). -/
  | adc_A_C
  /-- 0x8A: ADC A,D (R132). -/
  | adc_A_D
  /-- 0x8B: ADC A,E (R132). -/
  | adc_A_E
  /-- 0x8C: ADC A,H (R132). -/
  | adc_A_H
  /-- 0x8D: ADC A,L (R132). -/
  | adc_A_L
  /-- 0x8E: ADC A,(HL) (R132). -/
  | adc_A_atHL
  /-- 0x8F: ADC A,A (R132). -/
  | adc_A_A
  /-- 0x90: SUB A,B (R133). -/
  | sub_A_B
  /-- 0x91: SUB A,C (R133). -/
  | sub_A_C
  /-- 0x92: SUB A,D (R133). -/
  | sub_A_D
  /-- 0x93: SUB A,E (R133). -/
  | sub_A_E
  /-- 0x94: SUB A,H (R133). -/
  | sub_A_H
  /-- 0x95: SUB A,L (R133). -/
  | sub_A_L
  /-- 0x96: SUB A,(HL) (R133). -/
  | sub_A_atHL
  /-- 0x97: SUB A,A (R133). -/
  | sub_A_A
  /-- 0x98: SBC A,B (R134). -/
  | sbc_A_B
  /-- 0x99: SBC A,C (R134). -/
  | sbc_A_C
  /-- 0x9A: SBC A,D (R134). -/
  | sbc_A_D
  /-- 0x9B: SBC A,E (R134). -/
  | sbc_A_E
  /-- 0x9C: SBC A,H (R134). -/
  | sbc_A_H
  /-- 0x9D: SBC A,L (R134). -/
  | sbc_A_L
  /-- 0x9E: SBC A,(HL) (R134). -/
  | sbc_A_atHL
  /-- 0x9F: SBC A,A (R134). -/
  | sbc_A_A
  /-- 0xA0: AND A,B (R135). -/
  | and_A_B
  /-- 0xA1: AND A,C (R135). -/
  | and_A_C
  /-- 0xA2: AND A,D (R135). -/
  | and_A_D
  /-- 0xA3: AND A,E (R135). -/
  | and_A_E
  /-- 0xA4: AND A,H (R135). -/
  | and_A_H
  /-- 0xA5: AND A,L (R135). -/
  | and_A_L
  /-- 0xA6: AND A,(HL) (R135). -/
  | and_A_atHL
  /-- 0xA7: AND A,A (R135). -/
  | and_A_A
  /-- 0xA8: XOR A,B (R136). -/
  | xor_A_B
  /-- 0xA9: XOR A,C (R136). -/
  | xor_A_C
  /-- 0xAA: XOR A,D (R136). -/
  | xor_A_D
  /-- 0xAB: XOR A,E (R136). -/
  | xor_A_E
  /-- 0xAC: XOR A,H (R136). -/
  | xor_A_H
  /-- 0xAD: XOR A,L (R136). -/
  | xor_A_L
  /-- 0xAE: XOR A,(HL) (R136). -/
  | xor_A_atHL
  /-- 0xAF: XOR A,A (R136). -/
  | xor_A_A
  /-- 0xB0: OR A,B (R137). -/
  | or_A_B
  /-- 0xB1: OR A,C (R137). -/
  | or_A_C
  /-- 0xB2: OR A,D (R137). -/
  | or_A_D
  /-- 0xB3: OR A,E (R137). -/
  | or_A_E
  /-- 0xB4: OR A,H (R137). -/
  | or_A_H
  /-- 0xB5: OR A,L (R137). -/
  | or_A_L
  /-- 0xB6: OR A,(HL) (R137). -/
  | or_A_atHL
  /-- 0xB7: OR A,A (R137). -/
  | or_A_A
  /-- 0xB8: CP A,B (R138). -/
  | cp_A_B
  /-- 0xB9: CP A,C (R138). -/
  | cp_A_C
  /-- 0xBA: CP A,D (R138). -/
  | cp_A_D
  /-- 0xBB: CP A,E (R138). -/
  | cp_A_E
  /-- 0xBC: CP A,H (R138). -/
  | cp_A_H
  /-- 0xBD: CP A,L (R138). -/
  | cp_A_L
  /-- 0xBE: CP A,(HL) (R138). -/
  | cp_A_atHL
  /-- 0xBF: CP A,A (R138). -/
  | cp_A_A
  /-- 0xC0: RET NZ (R199). -/
  | ret_NZ
  /-- 0xC1: POP BC (R125). -/
  | pop_BC
  /-- 0xC5: PUSH BC (R124). -/
  | push_BC
  /-- 0xC7: RST 00H (R201). -/
  | rst_00H
  /-- 0xC8: RET Z (R199). -/
  | ret_Z
  /-- 0xC9: RET (R198). -/
  | ret
  /-- 0xCF: RST 08H (R201). -/
  | rst_08H
  /-- 0xD0: RET NC (R199). -/
  | ret_NC
  /-- 0xD1: POP DE (R125). -/
  | pop_DE
  /-- 0xD3: ILLEGAL_D3 (R216). -/
  | illegal_D3
  /-- 0xD5: PUSH DE (R124). -/
  | push_DE
  /-- 0xD7: RST 10H (R201). -/
  | rst_10H
  /-- 0xD8: RET C (R199). -/
  | ret_C
  /-- 0xD9: RETI (R200). -/
  | reti
  /-- 0xDB: ILLEGAL_DB (R216). -/
  | illegal_DB
  /-- 0xDD: ILLEGAL_DD (R216). -/
  | illegal_DD
  /-- 0xDF: RST 18H (R201). -/
  | rst_18H
  /-- 0xE1: POP HL (R125). -/
  | pop_HL
  /-- 0xE2: LDH (C),A (R112). -/
  | ldh_atC_A
  /-- 0xE3: ILLEGAL_E3 (R216). -/
  | illegal_E3
  /-- 0xE4: ILLEGAL_E4 (R216). -/
  | illegal_E4
  /-- 0xE5: PUSH HL (R124). -/
  | push_HL
  /-- 0xE7: RST 20H (R201). -/
  | rst_20H
  /-- 0xE9: JP HL (R193). -/
  | jp_HL
  /-- 0xEB: ILLEGAL_EB (R216). -/
  | illegal_EB
  /-- 0xEC: ILLEGAL_EC (R216). -/
  | illegal_EC
  /-- 0xED: ILLEGAL_ED (R216). -/
  | illegal_ED
  /-- 0xEF: RST 28H (R201). -/
  | rst_28H
  /-- 0xF1: POP AF (R125). -/
  | pop_AF
  /-- 0xF2: LDH A,(C) (R111). -/
  | ldh_A_atC
  /-- 0xF3: DI (R213). -/
  | di
  /-- 0xF4: ILLEGAL_F4 (R216). -/
  | illegal_F4
  /-- 0xF5: PUSH AF (R124). -/
  | push_AF
  /-- 0xF7: RST 30H (R201). -/
  | rst_30H
  /-- 0xF9: LD SP,HL (R122). -/
  | ld_SP_HL
  /-- 0xFB: EI (R214). -/
  | ei
  /-- 0xFC: ILLEGAL_FC (R216). -/
  | illegal_FC
  /-- 0xFD: ILLEGAL_FD (R216). -/
  | illegal_FD
  /-- 0xFF: RST 38H (R201). -/
  | rst_38H
  /-- 0xCB00: RLC B (R165). -/
  | rlc_B
  /-- 0xCB01: RLC C (R165). -/
  | rlc_C
  /-- 0xCB02: RLC D (R165). -/
  | rlc_D
  /-- 0xCB03: RLC E (R165). -/
  | rlc_E
  /-- 0xCB04: RLC H (R165). -/
  | rlc_H
  /-- 0xCB05: RLC L (R165). -/
  | rlc_L
  /-- 0xCB06: RLC (HL) (R165). -/
  | rlc_atHL
  /-- 0xCB07: RLC A (R165). -/
  | rlc_A
  /-- 0xCB08: RRC B (R166). -/
  | rrc_B
  /-- 0xCB09: RRC C (R166). -/
  | rrc_C
  /-- 0xCB0A: RRC D (R166). -/
  | rrc_D
  /-- 0xCB0B: RRC E (R166). -/
  | rrc_E
  /-- 0xCB0C: RRC H (R166). -/
  | rrc_H
  /-- 0xCB0D: RRC L (R166). -/
  | rrc_L
  /-- 0xCB0E: RRC (HL) (R166). -/
  | rrc_atHL
  /-- 0xCB0F: RRC A (R166). -/
  | rrc_A
  /-- 0xCB10: RL B (R167). -/
  | rl_B
  /-- 0xCB11: RL C (R167). -/
  | rl_C
  /-- 0xCB12: RL D (R167). -/
  | rl_D
  /-- 0xCB13: RL E (R167). -/
  | rl_E
  /-- 0xCB14: RL H (R167). -/
  | rl_H
  /-- 0xCB15: RL L (R167). -/
  | rl_L
  /-- 0xCB16: RL (HL) (R167). -/
  | rl_atHL
  /-- 0xCB17: RL A (R167). -/
  | rl_A
  /-- 0xCB18: RR B (R168). -/
  | rr_B
  /-- 0xCB19: RR C (R168). -/
  | rr_C
  /-- 0xCB1A: RR D (R168). -/
  | rr_D
  /-- 0xCB1B: RR E (R168). -/
  | rr_E
  /-- 0xCB1C: RR H (R168). -/
  | rr_H
  /-- 0xCB1D: RR L (R168). -/
  | rr_L
  /-- 0xCB1E: RR (HL) (R168). -/
  | rr_atHL
  /-- 0xCB1F: RR A (R168). -/
  | rr_A
  /-- 0xCB20: SLA B (R169). -/
  | sla_B
  /-- 0xCB21: SLA C (R169). -/
  | sla_C
  /-- 0xCB22: SLA D (R169). -/
  | sla_D
  /-- 0xCB23: SLA E (R169). -/
  | sla_E
  /-- 0xCB24: SLA H (R169). -/
  | sla_H
  /-- 0xCB25: SLA L (R169). -/
  | sla_L
  /-- 0xCB26: SLA (HL) (R169). -/
  | sla_atHL
  /-- 0xCB27: SLA A (R169). -/
  | sla_A
  /-- 0xCB28: SRA B (R170). -/
  | sra_B
  /-- 0xCB29: SRA C (R170). -/
  | sra_C
  /-- 0xCB2A: SRA D (R170). -/
  | sra_D
  /-- 0xCB2B: SRA E (R170). -/
  | sra_E
  /-- 0xCB2C: SRA H (R170). -/
  | sra_H
  /-- 0xCB2D: SRA L (R170). -/
  | sra_L
  /-- 0xCB2E: SRA (HL) (R170). -/
  | sra_atHL
  /-- 0xCB2F: SRA A (R170). -/
  | sra_A
  /-- 0xCB30: SWAP B (R171). -/
  | swap_B
  /-- 0xCB31: SWAP C (R171). -/
  | swap_C
  /-- 0xCB32: SWAP D (R171). -/
  | swap_D
  /-- 0xCB33: SWAP E (R171). -/
  | swap_E
  /-- 0xCB34: SWAP H (R171). -/
  | swap_H
  /-- 0xCB35: SWAP L (R171). -/
  | swap_L
  /-- 0xCB36: SWAP (HL) (R171). -/
  | swap_atHL
  /-- 0xCB37: SWAP A (R171). -/
  | swap_A
  /-- 0xCB38: SRL B (R172). -/
  | srl_B
  /-- 0xCB39: SRL C (R172). -/
  | srl_C
  /-- 0xCB3A: SRL D (R172). -/
  | srl_D
  /-- 0xCB3B: SRL E (R172). -/
  | srl_E
  /-- 0xCB3C: SRL H (R172). -/
  | srl_H
  /-- 0xCB3D: SRL L (R172). -/
  | srl_L
  /-- 0xCB3E: SRL (HL) (R172). -/
  | srl_atHL
  /-- 0xCB3F: SRL A (R172). -/
  | srl_A
  /-- 0xCB40: BIT 0,B (R180). -/
  | bit_0_B
  /-- 0xCB41: BIT 0,C (R180). -/
  | bit_0_C
  /-- 0xCB42: BIT 0,D (R180). -/
  | bit_0_D
  /-- 0xCB43: BIT 0,E (R180). -/
  | bit_0_E
  /-- 0xCB44: BIT 0,H (R180). -/
  | bit_0_H
  /-- 0xCB45: BIT 0,L (R180). -/
  | bit_0_L
  /-- 0xCB46: BIT 0,(HL) (R181). -/
  | bit_0_atHL
  /-- 0xCB47: BIT 0,A (R180). -/
  | bit_0_A
  /-- 0xCB48: BIT 1,B (R180). -/
  | bit_1_B
  /-- 0xCB49: BIT 1,C (R180). -/
  | bit_1_C
  /-- 0xCB4A: BIT 1,D (R180). -/
  | bit_1_D
  /-- 0xCB4B: BIT 1,E (R180). -/
  | bit_1_E
  /-- 0xCB4C: BIT 1,H (R180). -/
  | bit_1_H
  /-- 0xCB4D: BIT 1,L (R180). -/
  | bit_1_L
  /-- 0xCB4E: BIT 1,(HL) (R181). -/
  | bit_1_atHL
  /-- 0xCB4F: BIT 1,A (R180). -/
  | bit_1_A
  /-- 0xCB50: BIT 2,B (R180). -/
  | bit_2_B
  /-- 0xCB51: BIT 2,C (R180). -/
  | bit_2_C
  /-- 0xCB52: BIT 2,D (R180). -/
  | bit_2_D
  /-- 0xCB53: BIT 2,E (R180). -/
  | bit_2_E
  /-- 0xCB54: BIT 2,H (R180). -/
  | bit_2_H
  /-- 0xCB55: BIT 2,L (R180). -/
  | bit_2_L
  /-- 0xCB56: BIT 2,(HL) (R181). -/
  | bit_2_atHL
  /-- 0xCB57: BIT 2,A (R180). -/
  | bit_2_A
  /-- 0xCB58: BIT 3,B (R180). -/
  | bit_3_B
  /-- 0xCB59: BIT 3,C (R180). -/
  | bit_3_C
  /-- 0xCB5A: BIT 3,D (R180). -/
  | bit_3_D
  /-- 0xCB5B: BIT 3,E (R180). -/
  | bit_3_E
  /-- 0xCB5C: BIT 3,H (R180). -/
  | bit_3_H
  /-- 0xCB5D: BIT 3,L (R180). -/
  | bit_3_L
  /-- 0xCB5E: BIT 3,(HL) (R181). -/
  | bit_3_atHL
  /-- 0xCB5F: BIT 3,A (R180). -/
  | bit_3_A
  /-- 0xCB60: BIT 4,B (R180). -/
  | bit_4_B
  /-- 0xCB61: BIT 4,C (R180). -/
  | bit_4_C
  /-- 0xCB62: BIT 4,D (R180). -/
  | bit_4_D
  /-- 0xCB63: BIT 4,E (R180). -/
  | bit_4_E
  /-- 0xCB64: BIT 4,H (R180). -/
  | bit_4_H
  /-- 0xCB65: BIT 4,L (R180). -/
  | bit_4_L
  /-- 0xCB66: BIT 4,(HL) (R181). -/
  | bit_4_atHL
  /-- 0xCB67: BIT 4,A (R180). -/
  | bit_4_A
  /-- 0xCB68: BIT 5,B (R180). -/
  | bit_5_B
  /-- 0xCB69: BIT 5,C (R180). -/
  | bit_5_C
  /-- 0xCB6A: BIT 5,D (R180). -/
  | bit_5_D
  /-- 0xCB6B: BIT 5,E (R180). -/
  | bit_5_E
  /-- 0xCB6C: BIT 5,H (R180). -/
  | bit_5_H
  /-- 0xCB6D: BIT 5,L (R180). -/
  | bit_5_L
  /-- 0xCB6E: BIT 5,(HL) (R181). -/
  | bit_5_atHL
  /-- 0xCB6F: BIT 5,A (R180). -/
  | bit_5_A
  /-- 0xCB70: BIT 6,B (R180). -/
  | bit_6_B
  /-- 0xCB71: BIT 6,C (R180). -/
  | bit_6_C
  /-- 0xCB72: BIT 6,D (R180). -/
  | bit_6_D
  /-- 0xCB73: BIT 6,E (R180). -/
  | bit_6_E
  /-- 0xCB74: BIT 6,H (R180). -/
  | bit_6_H
  /-- 0xCB75: BIT 6,L (R180). -/
  | bit_6_L
  /-- 0xCB76: BIT 6,(HL) (R181). -/
  | bit_6_atHL
  /-- 0xCB77: BIT 6,A (R180). -/
  | bit_6_A
  /-- 0xCB78: BIT 7,B (R180). -/
  | bit_7_B
  /-- 0xCB79: BIT 7,C (R180). -/
  | bit_7_C
  /-- 0xCB7A: BIT 7,D (R180). -/
  | bit_7_D
  /-- 0xCB7B: BIT 7,E (R180). -/
  | bit_7_E
  /-- 0xCB7C: BIT 7,H (R180). -/
  | bit_7_H
  /-- 0xCB7D: BIT 7,L (R180). -/
  | bit_7_L
  /-- 0xCB7E: BIT 7,(HL) (R181). -/
  | bit_7_atHL
  /-- 0xCB7F: BIT 7,A (R180). -/
  | bit_7_A
  /-- 0xCB80: RES 0,B (R182). -/
  | res_0_B
  /-- 0xCB81: RES 0,C (R182). -/
  | res_0_C
  /-- 0xCB82: RES 0,D (R182). -/
  | res_0_D
  /-- 0xCB83: RES 0,E (R182). -/
  | res_0_E
  /-- 0xCB84: RES 0,H (R182). -/
  | res_0_H
  /-- 0xCB85: RES 0,L (R182). -/
  | res_0_L
  /-- 0xCB86: RES 0,(HL) (R183). -/
  | res_0_atHL
  /-- 0xCB87: RES 0,A (R182). -/
  | res_0_A
  /-- 0xCB88: RES 1,B (R182). -/
  | res_1_B
  /-- 0xCB89: RES 1,C (R182). -/
  | res_1_C
  /-- 0xCB8A: RES 1,D (R182). -/
  | res_1_D
  /-- 0xCB8B: RES 1,E (R182). -/
  | res_1_E
  /-- 0xCB8C: RES 1,H (R182). -/
  | res_1_H
  /-- 0xCB8D: RES 1,L (R182). -/
  | res_1_L
  /-- 0xCB8E: RES 1,(HL) (R183). -/
  | res_1_atHL
  /-- 0xCB8F: RES 1,A (R182). -/
  | res_1_A
  /-- 0xCB90: RES 2,B (R182). -/
  | res_2_B
  /-- 0xCB91: RES 2,C (R182). -/
  | res_2_C
  /-- 0xCB92: RES 2,D (R182). -/
  | res_2_D
  /-- 0xCB93: RES 2,E (R182). -/
  | res_2_E
  /-- 0xCB94: RES 2,H (R182). -/
  | res_2_H
  /-- 0xCB95: RES 2,L (R182). -/
  | res_2_L
  /-- 0xCB96: RES 2,(HL) (R183). -/
  | res_2_atHL
  /-- 0xCB97: RES 2,A (R182). -/
  | res_2_A
  /-- 0xCB98: RES 3,B (R182). -/
  | res_3_B
  /-- 0xCB99: RES 3,C (R182). -/
  | res_3_C
  /-- 0xCB9A: RES 3,D (R182). -/
  | res_3_D
  /-- 0xCB9B: RES 3,E (R182). -/
  | res_3_E
  /-- 0xCB9C: RES 3,H (R182). -/
  | res_3_H
  /-- 0xCB9D: RES 3,L (R182). -/
  | res_3_L
  /-- 0xCB9E: RES 3,(HL) (R183). -/
  | res_3_atHL
  /-- 0xCB9F: RES 3,A (R182). -/
  | res_3_A
  /-- 0xCBA0: RES 4,B (R182). -/
  | res_4_B
  /-- 0xCBA1: RES 4,C (R182). -/
  | res_4_C
  /-- 0xCBA2: RES 4,D (R182). -/
  | res_4_D
  /-- 0xCBA3: RES 4,E (R182). -/
  | res_4_E
  /-- 0xCBA4: RES 4,H (R182). -/
  | res_4_H
  /-- 0xCBA5: RES 4,L (R182). -/
  | res_4_L
  /-- 0xCBA6: RES 4,(HL) (R183). -/
  | res_4_atHL
  /-- 0xCBA7: RES 4,A (R182). -/
  | res_4_A
  /-- 0xCBA8: RES 5,B (R182). -/
  | res_5_B
  /-- 0xCBA9: RES 5,C (R182). -/
  | res_5_C
  /-- 0xCBAA: RES 5,D (R182). -/
  | res_5_D
  /-- 0xCBAB: RES 5,E (R182). -/
  | res_5_E
  /-- 0xCBAC: RES 5,H (R182). -/
  | res_5_H
  /-- 0xCBAD: RES 5,L (R182). -/
  | res_5_L
  /-- 0xCBAE: RES 5,(HL) (R183). -/
  | res_5_atHL
  /-- 0xCBAF: RES 5,A (R182). -/
  | res_5_A
  /-- 0xCBB0: RES 6,B (R182). -/
  | res_6_B
  /-- 0xCBB1: RES 6,C (R182). -/
  | res_6_C
  /-- 0xCBB2: RES 6,D (R182). -/
  | res_6_D
  /-- 0xCBB3: RES 6,E (R182). -/
  | res_6_E
  /-- 0xCBB4: RES 6,H (R182). -/
  | res_6_H
  /-- 0xCBB5: RES 6,L (R182). -/
  | res_6_L
  /-- 0xCBB6: RES 6,(HL) (R183). -/
  | res_6_atHL
  /-- 0xCBB7: RES 6,A (R182). -/
  | res_6_A
  /-- 0xCBB8: RES 7,B (R182). -/
  | res_7_B
  /-- 0xCBB9: RES 7,C (R182). -/
  | res_7_C
  /-- 0xCBBA: RES 7,D (R182). -/
  | res_7_D
  /-- 0xCBBB: RES 7,E (R182). -/
  | res_7_E
  /-- 0xCBBC: RES 7,H (R182). -/
  | res_7_H
  /-- 0xCBBD: RES 7,L (R182). -/
  | res_7_L
  /-- 0xCBBE: RES 7,(HL) (R183). -/
  | res_7_atHL
  /-- 0xCBBF: RES 7,A (R182). -/
  | res_7_A
  /-- 0xCBC0: SET 0,B (R184). -/
  | set_0_B
  /-- 0xCBC1: SET 0,C (R184). -/
  | set_0_C
  /-- 0xCBC2: SET 0,D (R184). -/
  | set_0_D
  /-- 0xCBC3: SET 0,E (R184). -/
  | set_0_E
  /-- 0xCBC4: SET 0,H (R184). -/
  | set_0_H
  /-- 0xCBC5: SET 0,L (R184). -/
  | set_0_L
  /-- 0xCBC6: SET 0,(HL) (R185). -/
  | set_0_atHL
  /-- 0xCBC7: SET 0,A (R184). -/
  | set_0_A
  /-- 0xCBC8: SET 1,B (R184). -/
  | set_1_B
  /-- 0xCBC9: SET 1,C (R184). -/
  | set_1_C
  /-- 0xCBCA: SET 1,D (R184). -/
  | set_1_D
  /-- 0xCBCB: SET 1,E (R184). -/
  | set_1_E
  /-- 0xCBCC: SET 1,H (R184). -/
  | set_1_H
  /-- 0xCBCD: SET 1,L (R184). -/
  | set_1_L
  /-- 0xCBCE: SET 1,(HL) (R185). -/
  | set_1_atHL
  /-- 0xCBCF: SET 1,A (R184). -/
  | set_1_A
  /-- 0xCBD0: SET 2,B (R184). -/
  | set_2_B
  /-- 0xCBD1: SET 2,C (R184). -/
  | set_2_C
  /-- 0xCBD2: SET 2,D (R184). -/
  | set_2_D
  /-- 0xCBD3: SET 2,E (R184). -/
  | set_2_E
  /-- 0xCBD4: SET 2,H (R184). -/
  | set_2_H
  /-- 0xCBD5: SET 2,L (R184). -/
  | set_2_L
  /-- 0xCBD6: SET 2,(HL) (R185). -/
  | set_2_atHL
  /-- 0xCBD7: SET 2,A (R184). -/
  | set_2_A
  /-- 0xCBD8: SET 3,B (R184). -/
  | set_3_B
  /-- 0xCBD9: SET 3,C (R184). -/
  | set_3_C
  /-- 0xCBDA: SET 3,D (R184). -/
  | set_3_D
  /-- 0xCBDB: SET 3,E (R184). -/
  | set_3_E
  /-- 0xCBDC: SET 3,H (R184). -/
  | set_3_H
  /-- 0xCBDD: SET 3,L (R184). -/
  | set_3_L
  /-- 0xCBDE: SET 3,(HL) (R185). -/
  | set_3_atHL
  /-- 0xCBDF: SET 3,A (R184). -/
  | set_3_A
  /-- 0xCBE0: SET 4,B (R184). -/
  | set_4_B
  /-- 0xCBE1: SET 4,C (R184). -/
  | set_4_C
  /-- 0xCBE2: SET 4,D (R184). -/
  | set_4_D
  /-- 0xCBE3: SET 4,E (R184). -/
  | set_4_E
  /-- 0xCBE4: SET 4,H (R184). -/
  | set_4_H
  /-- 0xCBE5: SET 4,L (R184). -/
  | set_4_L
  /-- 0xCBE6: SET 4,(HL) (R185). -/
  | set_4_atHL
  /-- 0xCBE7: SET 4,A (R184). -/
  | set_4_A
  /-- 0xCBE8: SET 5,B (R184). -/
  | set_5_B
  /-- 0xCBE9: SET 5,C (R184). -/
  | set_5_C
  /-- 0xCBEA: SET 5,D (R184). -/
  | set_5_D
  /-- 0xCBEB: SET 5,E (R184). -/
  | set_5_E
  /-- 0xCBEC: SET 5,H (R184). -/
  | set_5_H
  /-- 0xCBED: SET 5,L (R184). -/
  | set_5_L
  /-- 0xCBEE: SET 5,(HL) (R185). -/
  | set_5_atHL
  /-- 0xCBEF: SET 5,A (R184). -/
  | set_5_A
  /-- 0xCBF0: SET 6,B (R184). -/
  | set_6_B
  /-- 0xCBF1: SET 6,C (R184). -/
  | set_6_C
  /-- 0xCBF2: SET 6,D (R184). -/
  | set_6_D
  /-- 0xCBF3: SET 6,E (R184). -/
  | set_6_E
  /-- 0xCBF4: SET 6,H (R184). -/
  | set_6_H
  /-- 0xCBF5: SET 6,L (R184). -/
  | set_6_L
  /-- 0xCBF6: SET 6,(HL) (R185). -/
  | set_6_atHL
  /-- 0xCBF7: SET 6,A (R184). -/
  | set_6_A
  /-- 0xCBF8: SET 7,B (R184). -/
  | set_7_B
  /-- 0xCBF9: SET 7,C (R184). -/
  | set_7_C
  /-- 0xCBFA: SET 7,D (R184). -/
  | set_7_D
  /-- 0xCBFB: SET 7,E (R184). -/
  | set_7_E
  /-- 0xCBFC: SET 7,H (R184). -/
  | set_7_H
  /-- 0xCBFD: SET 7,L (R184). -/
  | set_7_L
  /-- 0xCBFE: SET 7,(HL) (R185). -/
  | set_7_atHL
  /-- 0xCBFF: SET 7,A (R184). -/
  | set_7_A
deriving DecidableEq, Repr

end Sys2Proof
end

