-- ==== Sys2Proof/WellFormed.lean ====
section
/-! DEFINITION. Which terms of `Instr` are instructions. Every operand is a value of its field's own width, so the one
check left is that the prefix byte is not used as an instruction. -/

namespace Sys2Proof

/-- `PREFIX CB` is "the prefix byte, not an instruction" (spec 47_misc_control.md R215): its words are the extended instruction's
words, so the term `prefix_CB` is refused. Every other row has words of its own (R61, R73, R76, R77). -/
def Instr.wf : Instr → Bool
  | .prefix_CB _ => false
  | _ => true

end Sys2Proof
end

