-- ==== Sys2Proof/Config.lean ====
section
/-! DEFINITION. What an implementation fixes (spec 00_scope.md R4, R5): the sizes of the storage arrays, and the open
parameters as constants with no body, so that nothing can be proved of their values. -/

namespace Sys2Proof.Config

/-- Bytes of the boot ROM (R4, R32). -/
abbrev bootSize : Nat := 0x100
/-- Bytes of the cartridge ROM (R4, R32). -/
abbrev romSize : Nat := 0x8000
/-- Bytes of the external RAM (R4, R32). -/
abbrev eramSize : Nat := 0x2000
/-- Bytes of the internal work RAM (R4, R32). -/
abbrev wramSize : Nat := 0x2000
/-- Bytes of the zero-page RAM (R4, R32). -/
abbrev zramSize : Nat := 0x80
/-- Bytes of the video RAM (R4, R32). -/
abbrev vramSize : Nat := 0x2000
/-- Bytes of the sprite attribute memory (R4, R32). -/
abbrev oamSize : Nat := 0xA0
/-- Bytes of the framebuffer: 160 by 144 pixels of 4 bytes (R4, R262). -/
abbrev fbSize : Nat := 92160

/-- `BOOT_ROM` (R5, decision D9): the 256 bytes of the boot ROM, left open (log 4). -/
opaque bootRom : BitVec 8 → Byte

/-- `INBIOS_RESET` (R5, decision D9): the value of the `inBIOS` latch after reset, left open (log 3). -/
opaque inBiosReset : Bool

/-- `UNMAPPED_READ` (R5, R42, decision D10): the byte that the n-th read of an address no region claims returns.
A free value: a fresh number for every read, and no law about any of them (log 2). -/
opaque unmappedRead : Nat → Word → Byte

end Sys2Proof.Config
end

