-- ==== Sys2Proof/Machine/Memory.lean ====
section
/-! DEFINITION. A storage array as data: the list of its cells that are not zero, offsets strictly rising (spec 20_memory.md R32;
70_reset_and_hazards.md R282: every array is "zero-filled" at construction, so an unlisted cell reads as zero). -/

namespace Sys2Proof.Machine

/-- A storage array: (offset, byte) pairs (log 10). -/
abbrev Memory := List Host.Cell

/-- What an unlisted cell reads as: "allocated once at machine construction and zero-filled" (R32, R282). -/
def unlistedByte : Byte := 0x00

/-- The byte at offset `k`. -/
def memGet : Memory → Nat → Byte
  | [], _ => unlistedByte
  | (j, u) :: m, k => if j = k then u else memGet m k

/-- Store byte `v` at offset `k`, keeping the canonical form: storing the byte an unlisted cell reads as removes the entry. -/
def memSet : Memory → Nat → Byte → Memory
  | [], k, v => if v = unlistedByte then [] else [(k, v)]
  | (j, u) :: m, k, v =>
    if k < j then (if v = unlistedByte then (j, u) :: m else (k, v) :: (j, u) :: m)
    else if k = j then (if v = unlistedByte then m else (k, v) :: m)
    else (j, u) :: memSet m k v

/-- The array that holds the bytes of a list from offset `k` on. -/
def memOfBytes : Nat → List Byte → Memory
  | _, [] => []
  | k, v :: vs => if v = unlistedByte then memOfBytes (k + 1) vs else (k, v) :: memOfBytes (k + 1) vs

/-- The canonical form: offsets strictly rising, and no entry equal to what an unlisted cell reads as. -/
def Memory.wf : Memory → Bool
  | [] => true
  | (k, v) :: m => v != unlistedByte && m.all (fun cell => decide (k < cell.1)) && Memory.wf m

/-- Every listed offset lies inside an array of `size` bytes. -/
def Memory.inBounds (size : Nat) (m : Memory) : Bool := m.all (fun cell => decide (cell.1 < size))

end Sys2Proof.Machine
end

