-- ==== Sys2Proof/Machine/State.lean ====
section
/-! DEFINITION. The state of the machine as plain data (spec 10_state.md, 20_memory.md R32 and R33, 60_exceptions.md R250 to R253):
the three blocks of 00_scope.md R2, and two fields of the model's own. The state after reset, and why a step can stop. -/

namespace Sys2Proof.Machine

/-- The CPU's registers (10_state.md R10, R12, R14, R15, R16). The pairs AF, BC, DE, HL are views of them (R11). -/
structure Cpu where
  /-- A, the accumulator (R10). -/
  a : Byte
  /-- F, the flags in bits 7..4; bits 3..0 are always zero (R12; log 11). -/
  f : Byte
  b : Byte
  c : Byte
  d : Byte
  e : Byte
  h : Byte
  l : Byte
  /-- SP (R15). -/
  sp : Word
  /-- PC: between steps the address of the next instruction's first byte (R14). -/
  pc : Word
  /-- IME, the interrupt-enable latch (R16). -/
  ime : Bool
deriving DecidableEq, Repr

/-- The MMU's latch and storage arrays (20_memory.md R32, R33). -/
structure Mmu where
  /-- `inBIOS`: the boot ROM overlays addresses below 0x0100 (R33). -/
  inBios : Bool
  /-- The boot ROM, 256 bytes, read-only (R32). -/
  boot : Memory
  /-- The cartridge ROM, 32 KB, changed by `load` only (R32, R45). -/
  rom : Memory
  /-- The external RAM, 8 KB (R37). -/
  eram : Memory
  /-- The internal work RAM, 8 KB, behind the RAM window and its echo (R38). -/
  wram : Memory
  /-- The zero-page RAM, 128 bytes (R47). -/
  zram : Memory
deriving DecidableEq, Repr

/-- The GPU's four modes (60_exceptions.md R253); STAT[1:0] shows the number. -/
inductive GpuMode where
  /-- Mode 0, HBlank. -/
  | hblank
  /-- Mode 1, VBlank. -/
  | vblank
  /-- Mode 2, OAM scan. -/
  | oamScan
  /-- Mode 3, VRAM scan. -/
  | vramScan
deriving DecidableEq, Repr

/-- The GPU's registers and storage (60_exceptions.md R250, R253; 20_memory.md R32). -/
structure Gpu where
  lcdc : Byte
  /-- STAT bits 7..2, plain storage (R254); bits 1..0 are `mode`. -/
  statHigh : BitVec 6
  scy : Byte
  scx : Byte
  /-- LY, the current scanline, 0 to 153 (log 14). -/
  ly : Byte
  lyc : Byte
  bgp : Byte
  obp0 : Byte
  obp1 : Byte
  wy : Byte
  wx : Byte
  mode : GpuMode
  /-- The mode clock: ticks since the last mode change (R253). -/
  clock : Nat
  /-- The video RAM, 8 KB; tile data and tile maps are views of it (20_memory.md R32, R57). -/
  vram : Memory
  /-- The sprite attribute memory, 160 bytes (20_memory.md R39). -/
  oam : Memory
  /-- The framebuffer, 92160 bytes (R262). -/
  fb : Memory
deriving DecidableEq, Repr

/-- The whole machine. -/
structure State where
  cpu : Cpu
  mmu : Mmu
  gpu : Gpu
  /-- The model's own: the machine-cycle count the last step returned (30_encoding.md R70, R74; log 1). -/
  cycles : Nat
  /-- The model's own: how many values `UNMAPPED_READ` has given (20_memory.md R42; log 2). -/
  draws : Nat
deriving DecidableEq, Repr

/-- Why a step stops with a fault. -/
inductive Fault where
  /-- `UnimplementedOpcode(opcode, pc)` (60_exceptions.md R230, R232): raised by the meanings of the eleven illegal
  opcodes (47_misc_control.md R216), with the opcode key and the address of the opcode byte. It is the machine's own exception, which
  the spec delivers to the host; it is no difference from the hardware (safe). -/
  | unimplementedOpcode (opcode : Word) (pc : Word)
deriving DecidableEq, Repr

/-- Why the model gives a step no meaning. -/
inductive Refusal where
  /-- An instruction that has no meaning yet, by its mnemonic: raised by exec's own arms. No arm is left so. Safe: the model stops. -/
  | notModelled (mnemonic : String)
  /-- The bytes fetched are too few for the decoder: raised by `step` alone. Safe, and it never happens: the fetch
  reads as many bytes as the decoder takes (Laws/Fetch.lean; log 19). -/
  | undecodable
deriving DecidableEq, Repr

/-- The CPU's registers after reset (10_state.md R10 to R16; 70_reset_and_hazards.md R281). -/
def Cpu.reset : Cpu :=
  { a := 0x00, f := 0x00, b := 0x00, c := 0x00, d := 0x00, e := 0x00, h := 0x00, l := 0x00
    sp := 0x0000, pc := 0x0000, ime := false }

/-- The contents of the boot ROM: the parameter `BOOT_ROM` (R281, R282). -/
def bootImage : Memory :=
  memOfBytes 0 ((List.range Config.bootSize).map (fun k => Config.bootRom (BitVec.ofNat 8 k)))

/-- The GPU's registers after reset, its storage zero-filled (60_exceptions.md R265; 70_reset_and_hazards.md R281, R282). -/
def Gpu.reset : Gpu :=
  { lcdc := 0x00, statHigh := 0, scy := 0x00, scx := 0x00, ly := 0x00, lyc := 0x00, bgp := 0x00
    obp0 := 0x00, obp1 := 0x00, wy := 0x00, wx := 0x00, mode := .oamScan, clock := 0
    vram := [], oam := [], fb := [] }

/-- The machine right after reset: construction, with all storage zero-filled (70_reset_and_hazards.md R281, R282). The latch `inBIOS`
and the boot ROM take their parameters' values (logs 3, 4); the model's own counters start at zero (logs 1, 2). -/
def State.reset : State :=
  { cpu := Cpu.reset
    mmu := { inBios := Config.inBiosReset, boot := bootImage, rom := [], eram := [], wram := [], zram := [] }
    gpu := Gpu.reset
    cycles := 0
    draws := 0 }

end Sys2Proof.Machine
end

