-- ==== Sys2Proof/Machine/Flags.lean ====
section
/-! DEFINITION. The flags (spec 10_state.md R12, R13, R21) and every computation of a result with its flags
(42_alu8.md, 43_alu16.md, 44_rotate_shift.md, 45_bit.md). Sums and differences are computed on naturals and narrowed at the end. -/

namespace Sys2Proof.Machine

/-! ### The flag register -/

/-- The four flags of F (R12). -/
inductive Flag where
  | z | n | h | c
deriving DecidableEq, Repr

/-- "Flag bit positions: Z=0x80, N=0x40, H=0x20, C=0x10" (R12). -/
def flagMask : Flag → Byte
  | .z => 0x80
  | .n => 0x40
  | .h => 0x20
  | .c => 0x10

/-- `testFlag` (R13). -/
def testFlag (g : Flag) (f : Byte) : Bool := f &&& flagMask g != 0

/-- `setFlag` (R13). -/
def setFlag (g : Flag) (f : Byte) : Byte := f ||| flagMask g

/-- `resetFlag` (R13). -/
def resetFlag (g : Flag) (f : Byte) : Byte := f &&& ~~~ flagMask g &&& 0xF0

/-- `updateFlag` (R13). -/
def updateFlag (g : Flag) (cond : Bool) (f : Byte) : Byte := if cond then setFlag g f else resetFlag g f

/-- What an instruction does to the flags: `flags <- (z, n, h, c)`; `none` is the spec's `-`, unchanged (00_scope.md R7). -/
structure FlagUpdate where
  z : Option Bool
  n : Option Bool
  h : Option Bool
  c : Option Bool
deriving DecidableEq, Repr

/-- One position of `flags <- (z, n, h, c)` (R13). -/
def writeFlag (g : Flag) (cond : Option Bool) (f : Byte) : Byte :=
  match cond with
  | none => f
  | some b => updateFlag g b f

/-- `flags <- (z, n, h, c)`: "four `updateFlag` calls; a `-` position is no call" (R13). -/
def writeFlags (u : FlagUpdate) (f : Byte) : Byte :=
  writeFlag .c u.c (writeFlag .h u.h (writeFlag .n u.n (writeFlag .z u.z f)))

/-- A flag update that leaves every flag alone. -/
def noFlags : FlagUpdate := { z := none, n := none, h := none, c := none }

/-! ### 8-bit arithmetic and logic (42_alu8.md) -/

/-- A byte and the flags that go with it. -/
structure ByteResult where
  value : Byte
  flags : FlagUpdate
deriving DecidableEq, Repr

/-- The number of a 1-bit value. -/
def bitNat (b : Bool) : Nat := if b then 1 else 0

/-- `A + v + k` with the carry in `k` (R131, R132). -/
def addBytes (a v : Byte) (k : Bool) : ByteResult :=
  let t := a.toNat + v.toNat + bitNat k
  { value := BitVec.ofNat 8 t
    flags := { z := some (t % 0x100 == 0), n := some false
               h := some (decide (a.toNat % 0x10 + v.toNat % 0x10 + bitNat k > 0x0F))
               c := some (decide (t > 0xFF)) } }

/-- `A - v - k` with the borrow in `k` (R133, R134). -/
def subBytes (a v : Byte) (k : Bool) : ByteResult :=
  let t := (0x200 + a.toNat - v.toNat - bitNat k) % 0x100
  { value := BitVec.ofNat 8 t
    flags := { z := some (t == 0), n := some true
               h := some (decide (a.toNat % 0x10 < v.toNat % 0x10 + bitNat k))
               c := some (decide (a.toNat < v.toNat + bitNat k)) } }

/-- A logic operation's result `t`: Z from it, N=0, C=0, and H as given (R135, R136, R137). -/
def logicByte (t : Byte) (h : Bool) : ByteResult :=
  { value := t, flags := { z := some (t == 0), n := some false, h := some h, c := some false } }

/-- The eight accumulator operations on `A` and `v` with the C flag before (R130 to R138); the value is A's new value. -/
def aluResult (op : AluOp) (a v : Byte) (carry : Bool) : ByteResult :=
  match op with
  | .add => addBytes a v false
  | .adc => addBytes a v carry
  | .sub => subBytes a v false
  | .sbc => subBytes a v carry
  | .and => logicByte (a &&& v) true
  | .xor => logicByte (a ^^^ v) false
  | .or => logicByte (a ||| v) false
  | .cp => { value := a, flags := (subBytes a v false).flags }

/-- `INC`: C is not changed (R139, R140). -/
def incByte (v : Byte) : ByteResult :=
  { value := v + 1
    flags := { z := some (v + 1 == 0), n := some false, h := some (v &&& 0x0F == 0x0F), c := none } }

/-- `DEC`: C is not changed (R141, R142). -/
def decByte (v : Byte) : ByteResult :=
  { value := v - 1
    flags := { z := some (v - 1 == 0), n := some true, h := some (v &&& 0x0F == 0x00), c := none } }

/-- `DAA` on A and the flags before (R143). -/
def daaByte (a f : Byte) : ByteResult :=
  let n := testFlag .n f
  let low : Bool := testFlag .h f || (!n && decide ((a &&& 0x0F).toNat > 0x09))
  let high : Bool := testFlag .c f || (!n && decide (a.toNat > 0x99))
  let adj : Byte := (if low then 0x06 else 0x00) ||| (if high then 0x60 else 0x00)
  let t := if n then a - adj else a + adj
  { value := t, flags := { z := some (t == 0), n := none, h := some false, c := some high } }

/-- `CPL` (R144). -/
def cplByte (a : Byte) : ByteResult :=
  { value := a ^^^ 0xFF, flags := { z := none, n := some true, h := some true, c := none } }

/-- `SCF` (R145). -/
def scfFlags : FlagUpdate := { z := none, n := some false, h := some false, c := some true }

/-- `CCF` with the C flag before (R146). -/
def ccfFlags (carry : Bool) : FlagUpdate := { z := none, n := some false, h := some false, c := some (!carry) }

/-! ### 16-bit arithmetic (43_alu16.md, 41_load16_stack.md) -/

/-- A word and the flags that go with it. -/
structure WordResult where
  value : Word
  flags : FlagUpdate
deriving DecidableEq, Repr

/-- `ADD HL,rr`: H out of bit 11, C out of bit 15, Z unchanged (R150). -/
def addWords (hl v : Word) : WordResult :=
  let t := hl.toNat + v.toNat
  { value := BitVec.ofNat 16 t
    flags := { z := none, n := some false
               h := some (decide (hl.toNat % 0x1000 + v.toNat % 0x1000 > 0x0FFF))
               c := some (decide (t > 0xFFFF)) } }

/-- `sext_8`: the byte read as two's complement, at the width of an address (00_scope.md R7, 30_encoding.md R71). -/
def sext8 (e : Byte) : Word := e.signExtend 16

/-- SP plus a signed byte: the flags are those of the unsigned addition of SP's low byte and the raw byte (R123, R153; conflict C3). -/
def addSignedByte (sp : Word) (e : Byte) : WordResult :=
  { value := sp + sext8 e
    flags := { z := some false, n := some false
               h := some (decide (sp.toNat % 0x10 + e.toNat % 0x10 > 0x0F))
               c := some (decide (sp.toNat % 0x100 + e.toNat > 0xFF)) } }

/-! ### Rotates, shifts, swap (44_rotate_shift.md) -/

/-- The byte 0 or 1 of a 1-bit value. -/
def bitByte (b : Bool) : Byte := if b then 1 else 0

/-- The result `t` and the bit `b` moved into C, from `v` and the C flag before (R160 to R163, R165 to R172). SWAP moves none: C is 0. -/
def rotated (op : RotOp) (v : Byte) (carry : Bool) : Byte × Bool :=
  match op with
  | .rlc => ((v <<< 1) ||| bitByte (v.getLsbD 7), v.getLsbD 7)
  | .rrc => ((v >>> 1) ||| (bitByte (v.getLsbD 0) <<< 7), v.getLsbD 0)
  | .rl => ((v <<< 1) ||| bitByte carry, v.getLsbD 7)
  | .rr => ((v >>> 1) ||| (bitByte carry <<< 7), v.getLsbD 0)
  | .sla => (v <<< 1, v.getLsbD 7)
  | .sra => ((v >>> 1) ||| (v &&& 0x80), v.getLsbD 0)
  | .swap => ((v <<< 4) ||| (v >>> 4), false)
  | .srl => (v >>> 1, v.getLsbD 0)

/-- The extended forms: `flags <- (t == 0, 0, 0, b)` (R164, R171). -/
def rotResult (op : RotOp) (v : Byte) (carry : Bool) : ByteResult :=
  let r := rotated op v carry
  { value := r.1, flags := { z := some (r.1 == 0), n := some false, h := some false, c := some r.2 } }

/-- The accumulator forms RLCA, RRCA, RLA, RRA: "They always clear Z" (R160 to R163). -/
def rotAccResult (op : RotOp) (v : Byte) (carry : Bool) : ByteResult :=
  let r := rotated op v carry
  { value := r.1, flags := { z := some false, n := some false, h := some false, c := some r.2 } }

/-! ### Bit test, reset, set (45_bit.md) -/

/-- `BIT`: Z is the complement of the tested bit, N=0, H=1, C unchanged (R180, R181). -/
def bitTestFlags (b : Fin 8) (v : Byte) : FlagUpdate :=
  { z := some ((v >>> b.val) &&& 1 == 0), n := some false, h := some true, c := none }

/-- `RES` (R182, R183). -/
def bitReset (b : Fin 8) (v : Byte) : Byte := v &&& ~~~ ((1 : Byte) <<< b.val) &&& 0xFF

/-- `SET` (R184, R185). -/
def bitSet (b : Fin 8) (v : Byte) : Byte := v ||| ((1 : Byte) <<< b.val)

end Sys2Proof.Machine
end

