-- ==== Sys2Proof/Machine/Ops.lean ====
section
/-! DEFINITION. The named operations over registers and memory: registers and pairs (spec 10_state.md), the MMU's address decode
and its byte and word accesses (20_memory.md), the GPU registers as the CPU sees them (60_exceptions.md R250 to R252), the
stack (41_load16_stack.md R126, R127), the end of an instruction (30_encoding.md R72) and the one exception (60_exceptions.md R230). -/

namespace Sys2Proof.Machine

/-- What a meaning answers. -/
abbrev Result := Host.Outcome State Fault Refusal

/-! ### Registers and pairs -/

/-- `x[i]`: the register a register code names (00_scope.md R7; 30_encoding.md R64). -/
def getReg (r : Reg8) (s : State) : Byte :=
  match r with
  | .b => s.cpu.b
  | .c => s.cpu.c
  | .d => s.cpu.d
  | .e => s.cpu.e
  | .h => s.cpu.h
  | .l => s.cpu.l
  | .a => s.cpu.a

/-- `x[i] <- v` (00_scope.md R7). -/
def setReg (r : Reg8) (v : Byte) (s : State) : State :=
  match r with
  | .b => { s with cpu := { s.cpu with b := v } }
  | .c => { s with cpu := { s.cpu with c := v } }
  | .d => { s with cpu := { s.cpu with d := v } }
  | .e => { s with cpu := { s.cpu with e := v } }
  | .h => { s with cpu := { s.cpu with h := v } }
  | .l => { s with cpu := { s.cpu with l := v } }
  | .a => { s with cpu := { s.cpu with a := v } }

/-- Write all of F. Every caller keeps F[3:0] zero (10_state.md R12). -/
def setF (v : Byte) (s : State) : State := { s with cpu := { s.cpu with f := v } }

/-- Write SP. -/
def setSP (v : Word) (s : State) : State := { s with cpu := { s.cpu with sp := v } }

/-- Write the interrupt-enable latch (10_state.md R16). -/
def setIME (v : Bool) (s : State) : State := { s with cpu := { s.cpu with ime := v } }

/-- `flags <- (z, n, h, c)` on the machine's F (00_scope.md R7). -/
def setFlags (u : FlagUpdate) (s : State) : State := setF (writeFlags u s.cpu.f) s

/-- One flag of F, as a 1-bit value (00_scope.md R7: `Z, N, Hf, Cf`). -/
def flagOf (g : Flag) (s : State) : Bool := testFlag g s.cpu.f

/-- `rr[p]` by the table of R65: a pair is read "high byte = first letter" (10_state.md R11). -/
def getPair (p : Pair) (s : State) : Word :=
  match p with
  | .bc => wordOf s.cpu.b s.cpu.c
  | .de => wordOf s.cpu.d s.cpu.e
  | .hl => wordOf s.cpu.h s.cpu.l
  | .sp => s.cpu.sp

/-- `rr[p] <- v` by the table of R65: "high/low bytes equal `value>>8` and `value & 0xFF`" (10_state.md R11). -/
def setPair (p : Pair) (v : Word) (s : State) : State :=
  match p with
  | .bc => { s with cpu := { s.cpu with b := highByte v, c := lowByte v } }
  | .de => { s with cpu := { s.cpu with d := highByte v, e := lowByte v } }
  | .hl => { s with cpu := { s.cpu with h := highByte v, l := lowByte v } }
  | .sp => setSP v s

/-- `rr[p]` by the table of R66. -/
def getStackPair (p : StackPair) (s : State) : Word :=
  match p with
  | .bc => getPair .bc s
  | .de => getPair .de s
  | .hl => getPair .hl s
  | .af => wordOf s.cpu.a s.cpu.f

/-- `rr[p] <- v` by the table of R66: "Writing pair AF also forces F[3:0] to 0" (10_state.md R11, R12). -/
def setStackPair (p : StackPair) (v : Word) (s : State) : State :=
  match p with
  | .bc => setPair .bc v s
  | .de => setPair .de v s
  | .hl => setPair .hl v s
  | .af => setF (lowByte v &&& 0xF0) (setReg .a (highByte v) s)

/-! ### The GPU registers as memory (60_exceptions.md R250 to R252) -/

/-- The eleven GPU registers of the window 0xFF40 to 0xFF4B (R250). -/
inductive GpuReg where
  | lcdc | stat | scy | scx | ly | lyc | bgp | obp0 | obp1 | wy | wx
deriving DecidableEq, Repr

/-- The GPU register at an address (R250); 0xFF46 has none. -/
def gpuRegAt (a : Nat) : Option GpuReg :=
  match a with
  | 0xFF40 => some .lcdc
  | 0xFF41 => some .stat
  | 0xFF42 => some .scy
  | 0xFF43 => some .scx
  | 0xFF44 => some .ly
  | 0xFF45 => some .lyc
  | 0xFF47 => some .bgp
  | 0xFF48 => some .obp0
  | 0xFF49 => some .obp1
  | 0xFF4A => some .wy
  | 0xFF4B => some .wx
  | _ => none

/-- The number of a GPU mode, as STAT[1:0] shows it (R253). -/
def modeBits : GpuMode → BitVec 2
  | .hblank => 0
  | .vblank => 1
  | .oamScan => 2
  | .vramScan => 3

/-- `GpuRegRead`: the "CPU read" column of R250; STAT reads `(stored[7:2] ++ mode)` (R251). -/
def gpuRegRead (r : GpuReg) (g : Gpu) : Byte :=
  match r with
  | .lcdc => g.lcdc
  | .stat => g.statHigh ++ modeBits g.mode
  | .scy => g.scy
  | .scx => g.scx
  | .ly => g.ly
  | .lyc => g.lyc
  | .bgp => g.bgp
  | .obp0 => g.obp0
  | .obp1 => g.obp1
  | .wy => g.wy
  | .wx => g.wx

/-- `GpuRegWrite`: the "CPU write" column of R250 and nothing else: STAT stores bits 7..2, LY discards (R252). -/
def gpuRegWrite (r : GpuReg) (v : Byte) (g : Gpu) : Gpu :=
  match r with
  | .lcdc => { g with lcdc := v }
  | .stat => { g with statHigh := v.extractLsb' 2 6 }
  | .scy => { g with scy := v }
  | .scx => { g with scx := v }
  | .ly => g
  | .lyc => { g with lyc := v }
  | .bgp => { g with bgp := v }
  | .obp0 => { g with obp0 := v }
  | .obp1 => { g with obp1 := v }
  | .wy => { g with wy := v }
  | .wx => { g with wx := v }

/-! ### The MMU (20_memory.md) -/

/-- What an address names: a byte of a storage array by its offset, a GPU register, or nothing (R31). -/
inductive Place where
  | boot (k : Nat)
  | rom (k : Nat)
  | vram (k : Nat)
  | eram (k : Nat)
  | wram (k : Nat)
  | oam (k : Nat)
  | zram (k : Nat)
  | gpuReg (r : GpuReg)
  | unmapped
deriving DecidableEq, Repr

/-- The address decode of R40 and R41, the boot overlay first (R34). Two addresses name the same byte exactly when they have the same
place: the echo window has the places of the RAM window (R38). -/
def place (inBios : Bool) (addr : Word) : Place :=
  let a := addr.toNat
  if inBios && decide (a < 0x0100) then .boot a
  else if a ≤ 0x7FFF then .rom a
  else if a ≤ 0x9FFF then .vram (a - 0x8000)
  else if a ≤ 0xBFFF then .eram (a - 0xA000)
  else if a ≤ 0xDFFF then .wram (a - 0xC000)
  else if a ≤ 0xFDFF then .wram (a - 0xE000)
  else if a ≤ 0xFE9F then .oam (a - 0xFE00)
  else if 0xFF80 ≤ a then .zram (a - 0xFF80)
  else match gpuRegAt a with
    | some r => .gpuReg r
    | none => .unmapped

/-- What an address names in a state. -/
def placeOf (s : State) (addr : Word) : Place := place s.mmu.inBios addr

/-- The byte at a place; none where no region claims the address (R42). -/
def byteAtPlace (s : State) : Place → Option Byte
  | .boot k => some (memGet s.mmu.boot k)
  | .rom k => some (memGet s.mmu.rom k)
  | .vram k => some (memGet s.gpu.vram k)
  | .eram k => some (memGet s.mmu.eram k)
  | .wram k => some (memGet s.mmu.wram k)
  | .oam k => some (memGet s.gpu.oam k)
  | .zram k => some (memGet s.mmu.zram k)
  | .gpuReg r => some (gpuRegRead r s.gpu)
  | .unmapped => none

/-- The byte an address reads as; none where no region claims it (R40, R42). -/
def byteAt (s : State) (addr : Word) : Option Byte := byteAtPlace s (placeOf s addr)

/-- `MemRead(a, 1)` (R40): the byte, and the state after the read. "A read changes no state anywhere in the machine"; only the
model's own counter of free values moves, at an address no region claims (R42; log 2). -/
def read8 (addr : Word) (s : State) : Byte × State :=
  match byteAt s addr with
  | some v => (v, s)
  | none => (Config.unmappedRead s.draws addr, { s with draws := s.draws + 1 })

/-- Store a byte at a place, as an instruction does: the boot ROM and the ROM discard it (R35), so does an unclaimed address (R42). -/
def writePlace (p : Place) (v : Byte) (s : State) : State :=
  match p with
  | .boot _ => s
  | .rom _ => s
  | .vram k => { s with gpu := { s.gpu with vram := memSet s.gpu.vram k v } }
  | .eram k => { s with mmu := { s.mmu with eram := memSet s.mmu.eram k v } }
  | .wram k => { s with mmu := { s.mmu with wram := memSet s.mmu.wram k v } }
  | .oam k => { s with gpu := { s.gpu with oam := memSet s.gpu.oam k v } }
  | .zram k => { s with mmu := { s.mmu with zram := memSet s.mmu.zram k v } }
  | .gpuReg r => { s with gpu := gpuRegWrite r v s.gpu }
  | .unmapped => s

/-- `MemWrite(a, 1, v)` (R41). -/
def write8 (addr : Word) (v : Byte) (s : State) : State := writePlace (placeOf s addr) v s

/-- `MemRead(a, 2)`: "little-endian composites of two 8-bit accesses at `addr` and `addr+1`" (R43); the low byte first
(DEDUCED from decision D19, log 20; it only orders the free values drawn). -/
def read16 (addr : Word) (s : State) : Word × State :=
  let lo := read8 addr s
  let hi := read8 (addr + 1) lo.2
  (wordOf hi.1 lo.1, hi.2)

/-- `MemWrite(a, 2, v)`: the low byte first (R44). -/
def write16 (addr : Word) (v : Word) (s : State) : State :=
  write8 (addr + 1) (highByte v) (write8 addr (lowByte v) s)

/-! ### The stack (41_load16_stack.md) -/

/-- `push16(v)` (R126). -/
def push16 (v : Word) (s : State) : State := write16 (s.cpu.sp - 2) v (setSP (s.cpu.sp - 2) s)

/-- `pop16()` (R127): the word, and the state after. -/
def pop16 (s : State) : Word × State :=
  let r := read16 s.cpu.sp s
  (r.1, setSP (s.cpu.sp + 2) r.2)

/-! ### The end of an instruction -/

/-- `next`: the address after an instruction of `len` bytes, PC being the address of its first byte (00_scope.md R7). -/
def nextPC (len : Nat) (s : State) : Word := s.cpu.pc + BitVec.ofNat 16 len

/-- The state with PC at `target` and `m` as the count the step returns (30_encoding.md R72, R74; log 1). -/
def endAt (target : Word) (m : Nat) (s : State) : State :=
  { s with cpu := { s.cpu with pc := target }, cycles := m }

/-- `pc <- target; cycles <- m` (30_encoding.md R72, R74). -/
def jumpTo (target : Word) (m : Nat) (s : State) : Result := .next (endAt target m s)

/-- The default end of an instruction of `len` bytes that takes `m` machine cycles: `PC <- next; cycles <- m` (30_encoding.md R72, R74). -/
def finish (len m : Nat) (s : State) : Result := jumpTo (nextPC len s) m s

/-! ### The exception -/

/-- `raise UnimplementedOpcode(opcode, pc)` (60_exceptions.md R230): "nothing changes", and the exception leaves the machine through
the host interface: there is no entry inside the machine (R234) and so no return from one (R237; RETI is RET and IME, R200). -/
def raiseUnimplementedOpcode (opcode : Word) (s : State) : Result := .fault (.unimplementedOpcode opcode s.cpu.pc)

end Sys2Proof.Machine
end

