-- ==== Sys2Proof/Machine/Operands.lean ====
section
/-! DEFINITION. The operand forms (spec 20_memory.md R49, 30_encoding.md R64, R71): the 8-bit operand of a register code,
the high-page addresses, the relative target, and the conditions (46_control_transfer.md R190). -/

namespace Sys2Proof.Machine

/-- Read the operand of a register code: a register, or the byte at address HL (R64, R130, R164). -/
def readOperand (o : Operand8) (s : State) : Byte × State :=
  match o with
  | .reg r => (getReg r s, s)
  | .atHL => read8 (getPair .hl s) s

/-- Write back the operand of a register code (R64, R164). -/
def writeOperand (o : Operand8) (v : Byte) (s : State) : State :=
  match o with
  | .reg r => setReg r v s
  | .atHL => write8 (getPair .hl s) v s

/-- The machine cycles of a form: `onReg` on a register, `onMem` on the byte at HL (R130, R164). -/
def operandCycles (o : Operand8) (onReg onMem : Nat) : Nat :=
  match o with
  | .reg _ => onReg
  | .atHL => onMem

/-- A high-page address: `0xFF00 + off`, the offset zero-extended (R49, R71, R111 to R114). -/
def highPage (off : Byte) : Word := 0xFF00 + off.setWidth 16

/-- The target of a relative jump: `(next + sext_8(e8)) & 0xFFFF`, with `next` two bytes on (R194). -/
def relativeTarget (e8 : Byte) (s : State) : Word := nextPC 2 s + sext8 e8

/-- `cond(cc)` (R190). -/
def cond (cc : Cond) (s : State) : Bool :=
  match cc with
  | .nz => !flagOf .z s
  | .z => flagOf .z s
  | .nc => !flagOf .c s
  | .c => flagOf .c s

end Sys2Proof.Machine
end

