-- ==== Sys2Proof/Machine/Alu16.lean ====
section
/-! DEFINITION. 16-bit arithmetic (spec 43_alu16.md R150 to R153). -/

namespace Sys2Proof.Machine

/-- `HL <- HL + rr[p]` (R150): "v is read before HL is written". -/
def addToHL (p : Pair) (s : State) : Result :=
  let r := addWords (getPair .hl s) (getPair p s)
  finish 1 2 (setFlags r.flags (setPair .hl r.value s))

/-- `rr[p] <- rr[p] + 1`, no flag (R151). -/
def incPair (p : Pair) (s : State) : Result := finish 1 2 (setPair p (getPair p s + 1) s)

/-- `rr[p] <- rr[p] - 1`, no flag (R152). -/
def decPair (p : Pair) (s : State) : Result := finish 1 2 (setPair p (getPair p s - 1) s)

/-- `SP <- SP + sext_8(e8)` with the flags of R153. -/
def addSP (e8 : Byte) (s : State) : Result :=
  let r := addSignedByte s.cpu.sp e8
  finish 2 4 (setFlags r.flags (setSP r.value s))

/-- 0x09 `ADD HL,BC` (R150). -/
def execAdd_HL_BC (s : State) : Result := addToHL .bc s

/-- 0x19 `ADD HL,DE` (R150). -/
def execAdd_HL_DE (s : State) : Result := addToHL .de s

/-- 0x29 `ADD HL,HL` (R150). -/
def execAdd_HL_HL (s : State) : Result := addToHL .hl s

/-- 0x39 `ADD HL,SP` (R150). -/
def execAdd_HL_SP (s : State) : Result := addToHL .sp s

/-- 0x03 `INC BC` (R151). -/
def execInc_BC (s : State) : Result := incPair .bc s

/-- 0x13 `INC DE` (R151). -/
def execInc_DE (s : State) : Result := incPair .de s

/-- 0x23 `INC HL` (R151). -/
def execInc_HL (s : State) : Result := incPair .hl s

/-- 0x33 `INC SP` (R151). -/
def execInc_SP (s : State) : Result := incPair .sp s

/-- 0x0B `DEC BC` (R152). -/
def execDec_BC (s : State) : Result := decPair .bc s

/-- 0x1B `DEC DE` (R152). -/
def execDec_DE (s : State) : Result := decPair .de s

/-- 0x2B `DEC HL` (R152). -/
def execDec_HL (s : State) : Result := decPair .hl s

/-- 0x3B `DEC SP` (R152). -/
def execDec_SP (s : State) : Result := decPair .sp s

/-- 0xE8 `ADD SP,e8` (R153). -/
def execAdd_SP_e8 (e8 : Byte) (s : State) : Result := addSP e8 s

end Sys2Proof.Machine
end

