-- ==== Sys2Proof/Machine/Alu8.lean ====
section
/-! DEFINITION. 8-bit arithmetic and logic (spec 42_alu8.md R130 to R146): the shared operations over an operand form, then one
meaning per row. -/

namespace Sys2Proof.Machine

/-- Write a result to A and its flags to F. -/
def putAcc (r : ByteResult) (s : State) : State := setFlags r.flags (setReg .a r.value s)

/-- `alu A,v` for a value already read (R130: "`v` is read before A or F is written"). -/
def accWith (op : AluOp) (v : Byte) (s : State) : State := putAcc (aluResult op s.cpu.a v (flagOf .c s)) s

/-- `alu A,r'` and `alu A,(HL)`: one byte; one cycle on a register, two on the byte at HL (R130). -/
def accOperand (op : AluOp) (o : Operand8) (s : State) : Result :=
  finish 1 (operandCycles o 1 2) (accWith op (readOperand o s).1 (readOperand o s).2)

/-- `alu A,d8`: two bytes, two cycles (R130). -/
def accImm (op : AluOp) (d8 : Byte) (s : State) : Result := finish 2 2 (accWith op d8 s)

/-- `INC r` and `INC (HL)` (R139, R140). -/
def incOperand (o : Operand8) (s : State) : Result :=
  let r := incByte (readOperand o s).1
  finish 1 (operandCycles o 1 3) (setFlags r.flags (writeOperand o r.value (readOperand o s).2))

/-- `DEC r` and `DEC (HL)` (R141, R142). -/
def decOperand (o : Operand8) (s : State) : Result :=
  let r := decByte (readOperand o s).1
  finish 1 (operandCycles o 1 3) (setFlags r.flags (writeOperand o r.value (readOperand o s).2))

/-- 0x80 `ADD A,B` (R131). -/
def execAdd_A_B (s : State) : Result := accOperand .add (.reg .b) s

/-- 0x81 `ADD A,C` (R131). -/
def execAdd_A_C (s : State) : Result := accOperand .add (.reg .c) s

/-- 0x82 `ADD A,D` (R131). -/
def execAdd_A_D (s : State) : Result := accOperand .add (.reg .d) s

/-- 0x83 `ADD A,E` (R131). -/
def execAdd_A_E (s : State) : Result := accOperand .add (.reg .e) s

/-- 0x84 `ADD A,H` (R131). -/
def execAdd_A_H (s : State) : Result := accOperand .add (.reg .h) s

/-- 0x85 `ADD A,L` (R131). -/
def execAdd_A_L (s : State) : Result := accOperand .add (.reg .l) s

/-- 0x86 `ADD A,(HL)` (R131). -/
def execAdd_A_atHL (s : State) : Result := accOperand .add .atHL s

/-- 0x87 `ADD A,A` (R131). -/
def execAdd_A_A (s : State) : Result := accOperand .add (.reg .a) s

/-- 0xC6 `ADD A,d8` (R131). -/
def execAdd_A_d8 (d8 : Byte) (s : State) : Result := accImm .add d8 s

/-- 0x88 `ADC A,B` (R132). -/
def execAdc_A_B (s : State) : Result := accOperand .adc (.reg .b) s

/-- 0x89 `ADC A,C` (R132). -/
def execAdc_A_C (s : State) : Result := accOperand .adc (.reg .c) s

/-- 0x8A `ADC A,D` (R132). -/
def execAdc_A_D (s : State) : Result := accOperand .adc (.reg .d) s

/-- 0x8B `ADC A,E` (R132). -/
def execAdc_A_E (s : State) : Result := accOperand .adc (.reg .e) s

/-- 0x8C `ADC A,H` (R132). -/
def execAdc_A_H (s : State) : Result := accOperand .adc (.reg .h) s

/-- 0x8D `ADC A,L` (R132). -/
def execAdc_A_L (s : State) : Result := accOperand .adc (.reg .l) s

/-- 0x8E `ADC A,(HL)` (R132). -/
def execAdc_A_atHL (s : State) : Result := accOperand .adc .atHL s

/-- 0x8F `ADC A,A` (R132). -/
def execAdc_A_A (s : State) : Result := accOperand .adc (.reg .a) s

/-- 0xCE `ADC A,d8` (R132). -/
def execAdc_A_d8 (d8 : Byte) (s : State) : Result := accImm .adc d8 s

/-- 0x90 `SUB A,B` (R133). -/
def execSub_A_B (s : State) : Result := accOperand .sub (.reg .b) s

/-- 0x91 `SUB A,C` (R133). -/
def execSub_A_C (s : State) : Result := accOperand .sub (.reg .c) s

/-- 0x92 `SUB A,D` (R133). -/
def execSub_A_D (s : State) : Result := accOperand .sub (.reg .d) s

/-- 0x93 `SUB A,E` (R133). -/
def execSub_A_E (s : State) : Result := accOperand .sub (.reg .e) s

/-- 0x94 `SUB A,H` (R133). -/
def execSub_A_H (s : State) : Result := accOperand .sub (.reg .h) s

/-- 0x95 `SUB A,L` (R133). -/
def execSub_A_L (s : State) : Result := accOperand .sub (.reg .l) s

/-- 0x96 `SUB A,(HL)` (R133). -/
def execSub_A_atHL (s : State) : Result := accOperand .sub .atHL s

/-- 0x97 `SUB A,A` (R133). -/
def execSub_A_A (s : State) : Result := accOperand .sub (.reg .a) s

/-- 0xD6 `SUB A,d8` (R133). -/
def execSub_A_d8 (d8 : Byte) (s : State) : Result := accImm .sub d8 s

/-- 0x98 `SBC A,B` (R134). -/
def execSbc_A_B (s : State) : Result := accOperand .sbc (.reg .b) s

/-- 0x99 `SBC A,C` (R134). -/
def execSbc_A_C (s : State) : Result := accOperand .sbc (.reg .c) s

/-- 0x9A `SBC A,D` (R134). -/
def execSbc_A_D (s : State) : Result := accOperand .sbc (.reg .d) s

/-- 0x9B `SBC A,E` (R134). -/
def execSbc_A_E (s : State) : Result := accOperand .sbc (.reg .e) s

/-- 0x9C `SBC A,H` (R134). -/
def execSbc_A_H (s : State) : Result := accOperand .sbc (.reg .h) s

/-- 0x9D `SBC A,L` (R134). -/
def execSbc_A_L (s : State) : Result := accOperand .sbc (.reg .l) s

/-- 0x9E `SBC A,(HL)` (R134). -/
def execSbc_A_atHL (s : State) : Result := accOperand .sbc .atHL s

/-- 0x9F `SBC A,A` (R134). -/
def execSbc_A_A (s : State) : Result := accOperand .sbc (.reg .a) s

/-- 0xDE `SBC A,d8` (R134). -/
def execSbc_A_d8 (d8 : Byte) (s : State) : Result := accImm .sbc d8 s

/-- 0xA0 `AND A,B` (R135). -/
def execAnd_A_B (s : State) : Result := accOperand .and (.reg .b) s

/-- 0xA1 `AND A,C` (R135). -/
def execAnd_A_C (s : State) : Result := accOperand .and (.reg .c) s

/-- 0xA2 `AND A,D` (R135). -/
def execAnd_A_D (s : State) : Result := accOperand .and (.reg .d) s

/-- 0xA3 `AND A,E` (R135). -/
def execAnd_A_E (s : State) : Result := accOperand .and (.reg .e) s

/-- 0xA4 `AND A,H` (R135). -/
def execAnd_A_H (s : State) : Result := accOperand .and (.reg .h) s

/-- 0xA5 `AND A,L` (R135). -/
def execAnd_A_L (s : State) : Result := accOperand .and (.reg .l) s

/-- 0xA6 `AND A,(HL)` (R135). -/
def execAnd_A_atHL (s : State) : Result := accOperand .and .atHL s

/-- 0xA7 `AND A,A` (R135). -/
def execAnd_A_A (s : State) : Result := accOperand .and (.reg .a) s

/-- 0xE6 `AND A,d8` (R135). -/
def execAnd_A_d8 (d8 : Byte) (s : State) : Result := accImm .and d8 s

/-- 0xA8 `XOR A,B` (R136). -/
def execXor_A_B (s : State) : Result := accOperand .xor (.reg .b) s

/-- 0xA9 `XOR A,C` (R136). -/
def execXor_A_C (s : State) : Result := accOperand .xor (.reg .c) s

/-- 0xAA `XOR A,D` (R136). -/
def execXor_A_D (s : State) : Result := accOperand .xor (.reg .d) s

/-- 0xAB `XOR A,E` (R136). -/
def execXor_A_E (s : State) : Result := accOperand .xor (.reg .e) s

/-- 0xAC `XOR A,H` (R136). -/
def execXor_A_H (s : State) : Result := accOperand .xor (.reg .h) s

/-- 0xAD `XOR A,L` (R136). -/
def execXor_A_L (s : State) : Result := accOperand .xor (.reg .l) s

/-- 0xAE `XOR A,(HL)` (R136). -/
def execXor_A_atHL (s : State) : Result := accOperand .xor .atHL s

/-- 0xAF `XOR A,A` (R136). -/
def execXor_A_A (s : State) : Result := accOperand .xor (.reg .a) s

/-- 0xEE `XOR A,d8` (R136). -/
def execXor_A_d8 (d8 : Byte) (s : State) : Result := accImm .xor d8 s

/-- 0xB0 `OR A,B` (R137). -/
def execOr_A_B (s : State) : Result := accOperand .or (.reg .b) s

/-- 0xB1 `OR A,C` (R137). -/
def execOr_A_C (s : State) : Result := accOperand .or (.reg .c) s

/-- 0xB2 `OR A,D` (R137). -/
def execOr_A_D (s : State) : Result := accOperand .or (.reg .d) s

/-- 0xB3 `OR A,E` (R137). -/
def execOr_A_E (s : State) : Result := accOperand .or (.reg .e) s

/-- 0xB4 `OR A,H` (R137). -/
def execOr_A_H (s : State) : Result := accOperand .or (.reg .h) s

/-- 0xB5 `OR A,L` (R137). -/
def execOr_A_L (s : State) : Result := accOperand .or (.reg .l) s

/-- 0xB6 `OR A,(HL)` (R137). -/
def execOr_A_atHL (s : State) : Result := accOperand .or .atHL s

/-- 0xB7 `OR A,A` (R137). -/
def execOr_A_A (s : State) : Result := accOperand .or (.reg .a) s

/-- 0xF6 `OR A,d8` (R137). -/
def execOr_A_d8 (d8 : Byte) (s : State) : Result := accImm .or d8 s

/-- 0xB8 `CP A,B` (R138). -/
def execCp_A_B (s : State) : Result := accOperand .cp (.reg .b) s

/-- 0xB9 `CP A,C` (R138). -/
def execCp_A_C (s : State) : Result := accOperand .cp (.reg .c) s

/-- 0xBA `CP A,D` (R138). -/
def execCp_A_D (s : State) : Result := accOperand .cp (.reg .d) s

/-- 0xBB `CP A,E` (R138). -/
def execCp_A_E (s : State) : Result := accOperand .cp (.reg .e) s

/-- 0xBC `CP A,H` (R138). -/
def execCp_A_H (s : State) : Result := accOperand .cp (.reg .h) s

/-- 0xBD `CP A,L` (R138). -/
def execCp_A_L (s : State) : Result := accOperand .cp (.reg .l) s

/-- 0xBE `CP A,(HL)` (R138). -/
def execCp_A_atHL (s : State) : Result := accOperand .cp .atHL s

/-- 0xBF `CP A,A` (R138). -/
def execCp_A_A (s : State) : Result := accOperand .cp (.reg .a) s

/-- 0xFE `CP A,d8` (R138). -/
def execCp_A_d8 (d8 : Byte) (s : State) : Result := accImm .cp d8 s

/-- 0x04 `INC B` (R139). -/
def execInc_B (s : State) : Result := incOperand (.reg .b) s

/-- 0x0C `INC C` (R139). -/
def execInc_C (s : State) : Result := incOperand (.reg .c) s

/-- 0x14 `INC D` (R139). -/
def execInc_D (s : State) : Result := incOperand (.reg .d) s

/-- 0x1C `INC E` (R139). -/
def execInc_E (s : State) : Result := incOperand (.reg .e) s

/-- 0x24 `INC H` (R139). -/
def execInc_H (s : State) : Result := incOperand (.reg .h) s

/-- 0x2C `INC L` (R139). -/
def execInc_L (s : State) : Result := incOperand (.reg .l) s

/-- 0x3C `INC A` (R139). -/
def execInc_A (s : State) : Result := incOperand (.reg .a) s

/-- 0x34 `INC (HL)` (R140). -/
def execInc_atHL (s : State) : Result := incOperand .atHL s

/-- 0x05 `DEC B` (R141). -/
def execDec_B (s : State) : Result := decOperand (.reg .b) s

/-- 0x0D `DEC C` (R141). -/
def execDec_C (s : State) : Result := decOperand (.reg .c) s

/-- 0x15 `DEC D` (R141). -/
def execDec_D (s : State) : Result := decOperand (.reg .d) s

/-- 0x1D `DEC E` (R141). -/
def execDec_E (s : State) : Result := decOperand (.reg .e) s

/-- 0x25 `DEC H` (R141). -/
def execDec_H (s : State) : Result := decOperand (.reg .h) s

/-- 0x2D `DEC L` (R141). -/
def execDec_L (s : State) : Result := decOperand (.reg .l) s

/-- 0x3D `DEC A` (R141). -/
def execDec_A (s : State) : Result := decOperand (.reg .a) s

/-- 0x35 `DEC (HL)` (R142). -/
def execDec_atHL (s : State) : Result := decOperand .atHL s

/-- 0x27 `DAA` (R143). -/
def execDaa (s : State) : Result := finish 1 1 (putAcc (daaByte s.cpu.a s.cpu.f) s)

/-- 0x2F `CPL` (R144). -/
def execCpl (s : State) : Result := finish 1 1 (putAcc (cplByte s.cpu.a) s)

/-- 0x37 `SCF` (R145). -/
def execScf (s : State) : Result := finish 1 1 (setFlags scfFlags s)

/-- 0x3F `CCF` (R146). -/
def execCcf (s : State) : Result := finish 1 1 (setFlags (ccfFlags (flagOf .c s)) s)

end Sys2Proof.Machine
end

