-- ==== Sys2Proof/Machine/Bit.lean ====
section
/-! DEFINITION. Bit test, reset and set (spec 45_bit.md R180 to R185): two cycles on a register, four on the byte at HL,
BIT included (conflict C4). -/

namespace Sys2Proof.Machine

/-- `BIT b,x`: flags only (R180, R181). -/
def testOperand (b : Fin 8) (o : Operand8) (s : State) : Result :=
  finish 2 (operandCycles o 2 4) (setFlags (bitTestFlags b (readOperand o s).1) (readOperand o s).2)

/-- `RES b,x` (R182, R183). -/
def resetOperand (b : Fin 8) (o : Operand8) (s : State) : Result :=
  finish 2 (operandCycles o 2 4) (writeOperand o (bitReset b (readOperand o s).1) (readOperand o s).2)

/-- `SET b,x` (R184, R185). -/
def setOperand (b : Fin 8) (o : Operand8) (s : State) : Result :=
  finish 2 (operandCycles o 2 4) (writeOperand o (bitSet b (readOperand o s).1) (readOperand o s).2)

/-- 0xCB40 `BIT 0,B` (R180). -/
def execBit_0_B (s : State) : Result := testOperand 0 (.reg .b) s

/-- 0xCB41 `BIT 0,C` (R180). -/
def execBit_0_C (s : State) : Result := testOperand 0 (.reg .c) s

/-- 0xCB42 `BIT 0,D` (R180). -/
def execBit_0_D (s : State) : Result := testOperand 0 (.reg .d) s

/-- 0xCB43 `BIT 0,E` (R180). -/
def execBit_0_E (s : State) : Result := testOperand 0 (.reg .e) s

/-- 0xCB44 `BIT 0,H` (R180). -/
def execBit_0_H (s : State) : Result := testOperand 0 (.reg .h) s

/-- 0xCB45 `BIT 0,L` (R180). -/
def execBit_0_L (s : State) : Result := testOperand 0 (.reg .l) s

/-- 0xCB47 `BIT 0,A` (R180). -/
def execBit_0_A (s : State) : Result := testOperand 0 (.reg .a) s

/-- 0xCB48 `BIT 1,B` (R180). -/
def execBit_1_B (s : State) : Result := testOperand 1 (.reg .b) s

/-- 0xCB49 `BIT 1,C` (R180). -/
def execBit_1_C (s : State) : Result := testOperand 1 (.reg .c) s

/-- 0xCB4A `BIT 1,D` (R180). -/
def execBit_1_D (s : State) : Result := testOperand 1 (.reg .d) s

/-- 0xCB4B `BIT 1,E` (R180). -/
def execBit_1_E (s : State) : Result := testOperand 1 (.reg .e) s

/-- 0xCB4C `BIT 1,H` (R180). -/
def execBit_1_H (s : State) : Result := testOperand 1 (.reg .h) s

/-- 0xCB4D `BIT 1,L` (R180). -/
def execBit_1_L (s : State) : Result := testOperand 1 (.reg .l) s

/-- 0xCB4F `BIT 1,A` (R180). -/
def execBit_1_A (s : State) : Result := testOperand 1 (.reg .a) s

/-- 0xCB50 `BIT 2,B` (R180). -/
def execBit_2_B (s : State) : Result := testOperand 2 (.reg .b) s

/-- 0xCB51 `BIT 2,C` (R180). -/
def execBit_2_C (s : State) : Result := testOperand 2 (.reg .c) s

/-- 0xCB52 `BIT 2,D` (R180). -/
def execBit_2_D (s : State) : Result := testOperand 2 (.reg .d) s

/-- 0xCB53 `BIT 2,E` (R180). -/
def execBit_2_E (s : State) : Result := testOperand 2 (.reg .e) s

/-- 0xCB54 `BIT 2,H` (R180). -/
def execBit_2_H (s : State) : Result := testOperand 2 (.reg .h) s

/-- 0xCB55 `BIT 2,L` (R180). -/
def execBit_2_L (s : State) : Result := testOperand 2 (.reg .l) s

/-- 0xCB57 `BIT 2,A` (R180). -/
def execBit_2_A (s : State) : Result := testOperand 2 (.reg .a) s

/-- 0xCB58 `BIT 3,B` (R180). -/
def execBit_3_B (s : State) : Result := testOperand 3 (.reg .b) s

/-- 0xCB59 `BIT 3,C` (R180). -/
def execBit_3_C (s : State) : Result := testOperand 3 (.reg .c) s

/-- 0xCB5A `BIT 3,D` (R180). -/
def execBit_3_D (s : State) : Result := testOperand 3 (.reg .d) s

/-- 0xCB5B `BIT 3,E` (R180). -/
def execBit_3_E (s : State) : Result := testOperand 3 (.reg .e) s

/-- 0xCB5C `BIT 3,H` (R180). -/
def execBit_3_H (s : State) : Result := testOperand 3 (.reg .h) s

/-- 0xCB5D `BIT 3,L` (R180). -/
def execBit_3_L (s : State) : Result := testOperand 3 (.reg .l) s

/-- 0xCB5F `BIT 3,A` (R180). -/
def execBit_3_A (s : State) : Result := testOperand 3 (.reg .a) s

/-- 0xCB60 `BIT 4,B` (R180). -/
def execBit_4_B (s : State) : Result := testOperand 4 (.reg .b) s

/-- 0xCB61 `BIT 4,C` (R180). -/
def execBit_4_C (s : State) : Result := testOperand 4 (.reg .c) s

/-- 0xCB62 `BIT 4,D` (R180). -/
def execBit_4_D (s : State) : Result := testOperand 4 (.reg .d) s

/-- 0xCB63 `BIT 4,E` (R180). -/
def execBit_4_E (s : State) : Result := testOperand 4 (.reg .e) s

/-- 0xCB64 `BIT 4,H` (R180). -/
def execBit_4_H (s : State) : Result := testOperand 4 (.reg .h) s

/-- 0xCB65 `BIT 4,L` (R180). -/
def execBit_4_L (s : State) : Result := testOperand 4 (.reg .l) s

/-- 0xCB67 `BIT 4,A` (R180). -/
def execBit_4_A (s : State) : Result := testOperand 4 (.reg .a) s

/-- 0xCB68 `BIT 5,B` (R180). -/
def execBit_5_B (s : State) : Result := testOperand 5 (.reg .b) s

/-- 0xCB69 `BIT 5,C` (R180). -/
def execBit_5_C (s : State) : Result := testOperand 5 (.reg .c) s

/-- 0xCB6A `BIT 5,D` (R180). -/
def execBit_5_D (s : State) : Result := testOperand 5 (.reg .d) s

/-- 0xCB6B `BIT 5,E` (R180). -/
def execBit_5_E (s : State) : Result := testOperand 5 (.reg .e) s

/-- 0xCB6C `BIT 5,H` (R180). -/
def execBit_5_H (s : State) : Result := testOperand 5 (.reg .h) s

/-- 0xCB6D `BIT 5,L` (R180). -/
def execBit_5_L (s : State) : Result := testOperand 5 (.reg .l) s

/-- 0xCB6F `BIT 5,A` (R180). -/
def execBit_5_A (s : State) : Result := testOperand 5 (.reg .a) s

/-- 0xCB70 `BIT 6,B` (R180). -/
def execBit_6_B (s : State) : Result := testOperand 6 (.reg .b) s

/-- 0xCB71 `BIT 6,C` (R180). -/
def execBit_6_C (s : State) : Result := testOperand 6 (.reg .c) s

/-- 0xCB72 `BIT 6,D` (R180). -/
def execBit_6_D (s : State) : Result := testOperand 6 (.reg .d) s

/-- 0xCB73 `BIT 6,E` (R180). -/
def execBit_6_E (s : State) : Result := testOperand 6 (.reg .e) s

/-- 0xCB74 `BIT 6,H` (R180). -/
def execBit_6_H (s : State) : Result := testOperand 6 (.reg .h) s

/-- 0xCB75 `BIT 6,L` (R180). -/
def execBit_6_L (s : State) : Result := testOperand 6 (.reg .l) s

/-- 0xCB77 `BIT 6,A` (R180). -/
def execBit_6_A (s : State) : Result := testOperand 6 (.reg .a) s

/-- 0xCB78 `BIT 7,B` (R180). -/
def execBit_7_B (s : State) : Result := testOperand 7 (.reg .b) s

/-- 0xCB79 `BIT 7,C` (R180). -/
def execBit_7_C (s : State) : Result := testOperand 7 (.reg .c) s

/-- 0xCB7A `BIT 7,D` (R180). -/
def execBit_7_D (s : State) : Result := testOperand 7 (.reg .d) s

/-- 0xCB7B `BIT 7,E` (R180). -/
def execBit_7_E (s : State) : Result := testOperand 7 (.reg .e) s

/-- 0xCB7C `BIT 7,H` (R180). -/
def execBit_7_H (s : State) : Result := testOperand 7 (.reg .h) s

/-- 0xCB7D `BIT 7,L` (R180). -/
def execBit_7_L (s : State) : Result := testOperand 7 (.reg .l) s

/-- 0xCB7F `BIT 7,A` (R180). -/
def execBit_7_A (s : State) : Result := testOperand 7 (.reg .a) s

/-- 0xCB46 `BIT 0,(HL)` (R181). -/
def execBit_0_atHL (s : State) : Result := testOperand 0 .atHL s

/-- 0xCB4E `BIT 1,(HL)` (R181). -/
def execBit_1_atHL (s : State) : Result := testOperand 1 .atHL s

/-- 0xCB56 `BIT 2,(HL)` (R181). -/
def execBit_2_atHL (s : State) : Result := testOperand 2 .atHL s

/-- 0xCB5E `BIT 3,(HL)` (R181). -/
def execBit_3_atHL (s : State) : Result := testOperand 3 .atHL s

/-- 0xCB66 `BIT 4,(HL)` (R181). -/
def execBit_4_atHL (s : State) : Result := testOperand 4 .atHL s

/-- 0xCB6E `BIT 5,(HL)` (R181). -/
def execBit_5_atHL (s : State) : Result := testOperand 5 .atHL s

/-- 0xCB76 `BIT 6,(HL)` (R181). -/
def execBit_6_atHL (s : State) : Result := testOperand 6 .atHL s

/-- 0xCB7E `BIT 7,(HL)` (R181). -/
def execBit_7_atHL (s : State) : Result := testOperand 7 .atHL s

/-- 0xCB80 `RES 0,B` (R182). -/
def execRes_0_B (s : State) : Result := resetOperand 0 (.reg .b) s

/-- 0xCB81 `RES 0,C` (R182). -/
def execRes_0_C (s : State) : Result := resetOperand 0 (.reg .c) s

/-- 0xCB82 `RES 0,D` (R182). -/
def execRes_0_D (s : State) : Result := resetOperand 0 (.reg .d) s

/-- 0xCB83 `RES 0,E` (R182). -/
def execRes_0_E (s : State) : Result := resetOperand 0 (.reg .e) s

/-- 0xCB84 `RES 0,H` (R182). -/
def execRes_0_H (s : State) : Result := resetOperand 0 (.reg .h) s

/-- 0xCB85 `RES 0,L` (R182). -/
def execRes_0_L (s : State) : Result := resetOperand 0 (.reg .l) s

/-- 0xCB87 `RES 0,A` (R182). -/
def execRes_0_A (s : State) : Result := resetOperand 0 (.reg .a) s

/-- 0xCB88 `RES 1,B` (R182). -/
def execRes_1_B (s : State) : Result := resetOperand 1 (.reg .b) s

/-- 0xCB89 `RES 1,C` (R182). -/
def execRes_1_C (s : State) : Result := resetOperand 1 (.reg .c) s

/-- 0xCB8A `RES 1,D` (R182). -/
def execRes_1_D (s : State) : Result := resetOperand 1 (.reg .d) s

/-- 0xCB8B `RES 1,E` (R182). -/
def execRes_1_E (s : State) : Result := resetOperand 1 (.reg .e) s

/-- 0xCB8C `RES 1,H` (R182). -/
def execRes_1_H (s : State) : Result := resetOperand 1 (.reg .h) s

/-- 0xCB8D `RES 1,L` (R182). -/
def execRes_1_L (s : State) : Result := resetOperand 1 (.reg .l) s

/-- 0xCB8F `RES 1,A` (R182). -/
def execRes_1_A (s : State) : Result := resetOperand 1 (.reg .a) s

/-- 0xCB90 `RES 2,B` (R182). -/
def execRes_2_B (s : State) : Result := resetOperand 2 (.reg .b) s

/-- 0xCB91 `RES 2,C` (R182). -/
def execRes_2_C (s : State) : Result := resetOperand 2 (.reg .c) s

/-- 0xCB92 `RES 2,D` (R182). -/
def execRes_2_D (s : State) : Result := resetOperand 2 (.reg .d) s

/-- 0xCB93 `RES 2,E` (R182). -/
def execRes_2_E (s : State) : Result := resetOperand 2 (.reg .e) s

/-- 0xCB94 `RES 2,H` (R182). -/
def execRes_2_H (s : State) : Result := resetOperand 2 (.reg .h) s

/-- 0xCB95 `RES 2,L` (R182). -/
def execRes_2_L (s : State) : Result := resetOperand 2 (.reg .l) s

/-- 0xCB97 `RES 2,A` (R182). -/
def execRes_2_A (s : State) : Result := resetOperand 2 (.reg .a) s

/-- 0xCB98 `RES 3,B` (R182). -/
def execRes_3_B (s : State) : Result := resetOperand 3 (.reg .b) s

/-- 0xCB99 `RES 3,C` (R182). -/
def execRes_3_C (s : State) : Result := resetOperand 3 (.reg .c) s

/-- 0xCB9A `RES 3,D` (R182). -/
def execRes_3_D (s : State) : Result := resetOperand 3 (.reg .d) s

/-- 0xCB9B `RES 3,E` (R182). -/
def execRes_3_E (s : State) : Result := resetOperand 3 (.reg .e) s

/-- 0xCB9C `RES 3,H` (R182). -/
def execRes_3_H (s : State) : Result := resetOperand 3 (.reg .h) s

/-- 0xCB9D `RES 3,L` (R182). -/
def execRes_3_L (s : State) : Result := resetOperand 3 (.reg .l) s

/-- 0xCB9F `RES 3,A` (R182). -/
def execRes_3_A (s : State) : Result := resetOperand 3 (.reg .a) s

/-- 0xCBA0 `RES 4,B` (R182). -/
def execRes_4_B (s : State) : Result := resetOperand 4 (.reg .b) s

/-- 0xCBA1 `RES 4,C` (R182). -/
def execRes_4_C (s : State) : Result := resetOperand 4 (.reg .c) s

/-- 0xCBA2 `RES 4,D` (R182). -/
def execRes_4_D (s : State) : Result := resetOperand 4 (.reg .d) s

/-- 0xCBA3 `RES 4,E` (R182). -/
def execRes_4_E (s : State) : Result := resetOperand 4 (.reg .e) s

/-- 0xCBA4 `RES 4,H` (R182). -/
def execRes_4_H (s : State) : Result := resetOperand 4 (.reg .h) s

/-- 0xCBA5 `RES 4,L` (R182). -/
def execRes_4_L (s : State) : Result := resetOperand 4 (.reg .l) s

/-- 0xCBA7 `RES 4,A` (R182). -/
def execRes_4_A (s : State) : Result := resetOperand 4 (.reg .a) s

/-- 0xCBA8 `RES 5,B` (R182). -/
def execRes_5_B (s : State) : Result := resetOperand 5 (.reg .b) s

/-- 0xCBA9 `RES 5,C` (R182). -/
def execRes_5_C (s : State) : Result := resetOperand 5 (.reg .c) s

/-- 0xCBAA `RES 5,D` (R182). -/
def execRes_5_D (s : State) : Result := resetOperand 5 (.reg .d) s

/-- 0xCBAB `RES 5,E` (R182). -/
def execRes_5_E (s : State) : Result := resetOperand 5 (.reg .e) s

/-- 0xCBAC `RES 5,H` (R182). -/
def execRes_5_H (s : State) : Result := resetOperand 5 (.reg .h) s

/-- 0xCBAD `RES 5,L` (R182). -/
def execRes_5_L (s : State) : Result := resetOperand 5 (.reg .l) s

/-- 0xCBAF `RES 5,A` (R182). -/
def execRes_5_A (s : State) : Result := resetOperand 5 (.reg .a) s

/-- 0xCBB0 `RES 6,B` (R182). -/
def execRes_6_B (s : State) : Result := resetOperand 6 (.reg .b) s

/-- 0xCBB1 `RES 6,C` (R182). -/
def execRes_6_C (s : State) : Result := resetOperand 6 (.reg .c) s

/-- 0xCBB2 `RES 6,D` (R182). -/
def execRes_6_D (s : State) : Result := resetOperand 6 (.reg .d) s

/-- 0xCBB3 `RES 6,E` (R182). -/
def execRes_6_E (s : State) : Result := resetOperand 6 (.reg .e) s

/-- 0xCBB4 `RES 6,H` (R182). -/
def execRes_6_H (s : State) : Result := resetOperand 6 (.reg .h) s

/-- 0xCBB5 `RES 6,L` (R182). -/
def execRes_6_L (s : State) : Result := resetOperand 6 (.reg .l) s

/-- 0xCBB7 `RES 6,A` (R182). -/
def execRes_6_A (s : State) : Result := resetOperand 6 (.reg .a) s

/-- 0xCBB8 `RES 7,B` (R182). -/
def execRes_7_B (s : State) : Result := resetOperand 7 (.reg .b) s

/-- 0xCBB9 `RES 7,C` (R182). -/
def execRes_7_C (s : State) : Result := resetOperand 7 (.reg .c) s

/-- 0xCBBA `RES 7,D` (R182). -/
def execRes_7_D (s : State) : Result := resetOperand 7 (.reg .d) s

/-- 0xCBBB `RES 7,E` (R182). -/
def execRes_7_E (s : State) : Result := resetOperand 7 (.reg .e) s

/-- 0xCBBC `RES 7,H` (R182). -/
def execRes_7_H (s : State) : Result := resetOperand 7 (.reg .h) s

/-- 0xCBBD `RES 7,L` (R182). -/
def execRes_7_L (s : State) : Result := resetOperand 7 (.reg .l) s

/-- 0xCBBF `RES 7,A` (R182). -/
def execRes_7_A (s : State) : Result := resetOperand 7 (.reg .a) s

/-- 0xCB86 `RES 0,(HL)` (R183). -/
def execRes_0_atHL (s : State) : Result := resetOperand 0 .atHL s

/-- 0xCB8E `RES 1,(HL)` (R183). -/
def execRes_1_atHL (s : State) : Result := resetOperand 1 .atHL s

/-- 0xCB96 `RES 2,(HL)` (R183). -/
def execRes_2_atHL (s : State) : Result := resetOperand 2 .atHL s

/-- 0xCB9E `RES 3,(HL)` (R183). -/
def execRes_3_atHL (s : State) : Result := resetOperand 3 .atHL s

/-- 0xCBA6 `RES 4,(HL)` (R183). -/
def execRes_4_atHL (s : State) : Result := resetOperand 4 .atHL s

/-- 0xCBAE `RES 5,(HL)` (R183). -/
def execRes_5_atHL (s : State) : Result := resetOperand 5 .atHL s

/-- 0xCBB6 `RES 6,(HL)` (R183). -/
def execRes_6_atHL (s : State) : Result := resetOperand 6 .atHL s

/-- 0xCBBE `RES 7,(HL)` (R183). -/
def execRes_7_atHL (s : State) : Result := resetOperand 7 .atHL s

/-- 0xCBC0 `SET 0,B` (R184). -/
def execSet_0_B (s : State) : Result := setOperand 0 (.reg .b) s

/-- 0xCBC1 `SET 0,C` (R184). -/
def execSet_0_C (s : State) : Result := setOperand 0 (.reg .c) s

/-- 0xCBC2 `SET 0,D` (R184). -/
def execSet_0_D (s : State) : Result := setOperand 0 (.reg .d) s

/-- 0xCBC3 `SET 0,E` (R184). -/
def execSet_0_E (s : State) : Result := setOperand 0 (.reg .e) s

/-- 0xCBC4 `SET 0,H` (R184). -/
def execSet_0_H (s : State) : Result := setOperand 0 (.reg .h) s

/-- 0xCBC5 `SET 0,L` (R184). -/
def execSet_0_L (s : State) : Result := setOperand 0 (.reg .l) s

/-- 0xCBC7 `SET 0,A` (R184). -/
def execSet_0_A (s : State) : Result := setOperand 0 (.reg .a) s

/-- 0xCBC8 `SET 1,B` (R184). -/
def execSet_1_B (s : State) : Result := setOperand 1 (.reg .b) s

/-- 0xCBC9 `SET 1,C` (R184). -/
def execSet_1_C (s : State) : Result := setOperand 1 (.reg .c) s

/-- 0xCBCA `SET 1,D` (R184). -/
def execSet_1_D (s : State) : Result := setOperand 1 (.reg .d) s

/-- 0xCBCB `SET 1,E` (R184). -/
def execSet_1_E (s : State) : Result := setOperand 1 (.reg .e) s

/-- 0xCBCC `SET 1,H` (R184). -/
def execSet_1_H (s : State) : Result := setOperand 1 (.reg .h) s

/-- 0xCBCD `SET 1,L` (R184). -/
def execSet_1_L (s : State) : Result := setOperand 1 (.reg .l) s

/-- 0xCBCF `SET 1,A` (R184). -/
def execSet_1_A (s : State) : Result := setOperand 1 (.reg .a) s

/-- 0xCBD0 `SET 2,B` (R184). -/
def execSet_2_B (s : State) : Result := setOperand 2 (.reg .b) s

/-- 0xCBD1 `SET 2,C` (R184). -/
def execSet_2_C (s : State) : Result := setOperand 2 (.reg .c) s

/-- 0xCBD2 `SET 2,D` (R184). -/
def execSet_2_D (s : State) : Result := setOperand 2 (.reg .d) s

/-- 0xCBD3 `SET 2,E` (R184). -/
def execSet_2_E (s : State) : Result := setOperand 2 (.reg .e) s

/-- 0xCBD4 `SET 2,H` (R184). -/
def execSet_2_H (s : State) : Result := setOperand 2 (.reg .h) s

/-- 0xCBD5 `SET 2,L` (R184). -/
def execSet_2_L (s : State) : Result := setOperand 2 (.reg .l) s

/-- 0xCBD7 `SET 2,A` (R184). -/
def execSet_2_A (s : State) : Result := setOperand 2 (.reg .a) s

/-- 0xCBD8 `SET 3,B` (R184). -/
def execSet_3_B (s : State) : Result := setOperand 3 (.reg .b) s

/-- 0xCBD9 `SET 3,C` (R184). -/
def execSet_3_C (s : State) : Result := setOperand 3 (.reg .c) s

/-- 0xCBDA `SET 3,D` (R184). -/
def execSet_3_D (s : State) : Result := setOperand 3 (.reg .d) s

/-- 0xCBDB `SET 3,E` (R184). -/
def execSet_3_E (s : State) : Result := setOperand 3 (.reg .e) s

/-- 0xCBDC `SET 3,H` (R184). -/
def execSet_3_H (s : State) : Result := setOperand 3 (.reg .h) s

/-- 0xCBDD `SET 3,L` (R184). -/
def execSet_3_L (s : State) : Result := setOperand 3 (.reg .l) s

/-- 0xCBDF `SET 3,A` (R184). -/
def execSet_3_A (s : State) : Result := setOperand 3 (.reg .a) s

/-- 0xCBE0 `SET 4,B` (R184). -/
def execSet_4_B (s : State) : Result := setOperand 4 (.reg .b) s

/-- 0xCBE1 `SET 4,C` (R184). -/
def execSet_4_C (s : State) : Result := setOperand 4 (.reg .c) s

/-- 0xCBE2 `SET 4,D` (R184). -/
def execSet_4_D (s : State) : Result := setOperand 4 (.reg .d) s

/-- 0xCBE3 `SET 4,E` (R184). -/
def execSet_4_E (s : State) : Result := setOperand 4 (.reg .e) s

/-- 0xCBE4 `SET 4,H` (R184). -/
def execSet_4_H (s : State) : Result := setOperand 4 (.reg .h) s

/-- 0xCBE5 `SET 4,L` (R184). -/
def execSet_4_L (s : State) : Result := setOperand 4 (.reg .l) s

/-- 0xCBE7 `SET 4,A` (R184). -/
def execSet_4_A (s : State) : Result := setOperand 4 (.reg .a) s

/-- 0xCBE8 `SET 5,B` (R184). -/
def execSet_5_B (s : State) : Result := setOperand 5 (.reg .b) s

/-- 0xCBE9 `SET 5,C` (R184). -/
def execSet_5_C (s : State) : Result := setOperand 5 (.reg .c) s

/-- 0xCBEA `SET 5,D` (R184). -/
def execSet_5_D (s : State) : Result := setOperand 5 (.reg .d) s

/-- 0xCBEB `SET 5,E` (R184). -/
def execSet_5_E (s : State) : Result := setOperand 5 (.reg .e) s

/-- 0xCBEC `SET 5,H` (R184). -/
def execSet_5_H (s : State) : Result := setOperand 5 (.reg .h) s

/-- 0xCBED `SET 5,L` (R184). -/
def execSet_5_L (s : State) : Result := setOperand 5 (.reg .l) s

/-- 0xCBEF `SET 5,A` (R184). -/
def execSet_5_A (s : State) : Result := setOperand 5 (.reg .a) s

/-- 0xCBF0 `SET 6,B` (R184). -/
def execSet_6_B (s : State) : Result := setOperand 6 (.reg .b) s

/-- 0xCBF1 `SET 6,C` (R184). -/
def execSet_6_C (s : State) : Result := setOperand 6 (.reg .c) s

/-- 0xCBF2 `SET 6,D` (R184). -/
def execSet_6_D (s : State) : Result := setOperand 6 (.reg .d) s

/-- 0xCBF3 `SET 6,E` (R184). -/
def execSet_6_E (s : State) : Result := setOperand 6 (.reg .e) s

/-- 0xCBF4 `SET 6,H` (R184). -/
def execSet_6_H (s : State) : Result := setOperand 6 (.reg .h) s

/-- 0xCBF5 `SET 6,L` (R184). -/
def execSet_6_L (s : State) : Result := setOperand 6 (.reg .l) s

/-- 0xCBF7 `SET 6,A` (R184). -/
def execSet_6_A (s : State) : Result := setOperand 6 (.reg .a) s

/-- 0xCBF8 `SET 7,B` (R184). -/
def execSet_7_B (s : State) : Result := setOperand 7 (.reg .b) s

/-- 0xCBF9 `SET 7,C` (R184). -/
def execSet_7_C (s : State) : Result := setOperand 7 (.reg .c) s

/-- 0xCBFA `SET 7,D` (R184). -/
def execSet_7_D (s : State) : Result := setOperand 7 (.reg .d) s

/-- 0xCBFB `SET 7,E` (R184). -/
def execSet_7_E (s : State) : Result := setOperand 7 (.reg .e) s

/-- 0xCBFC `SET 7,H` (R184). -/
def execSet_7_H (s : State) : Result := setOperand 7 (.reg .h) s

/-- 0xCBFD `SET 7,L` (R184). -/
def execSet_7_L (s : State) : Result := setOperand 7 (.reg .l) s

/-- 0xCBFF `SET 7,A` (R184). -/
def execSet_7_A (s : State) : Result := setOperand 7 (.reg .a) s

/-- 0xCBC6 `SET 0,(HL)` (R185). -/
def execSet_0_atHL (s : State) : Result := setOperand 0 .atHL s

/-- 0xCBCE `SET 1,(HL)` (R185). -/
def execSet_1_atHL (s : State) : Result := setOperand 1 .atHL s

/-- 0xCBD6 `SET 2,(HL)` (R185). -/
def execSet_2_atHL (s : State) : Result := setOperand 2 .atHL s

/-- 0xCBDE `SET 3,(HL)` (R185). -/
def execSet_3_atHL (s : State) : Result := setOperand 3 .atHL s

/-- 0xCBE6 `SET 4,(HL)` (R185). -/
def execSet_4_atHL (s : State) : Result := setOperand 4 .atHL s

/-- 0xCBEE `SET 5,(HL)` (R185). -/
def execSet_5_atHL (s : State) : Result := setOperand 5 .atHL s

/-- 0xCBF6 `SET 6,(HL)` (R185). -/
def execSet_6_atHL (s : State) : Result := setOperand 6 .atHL s

/-- 0xCBFE `SET 7,(HL)` (R185). -/
def execSet_7_atHL (s : State) : Result := setOperand 7 .atHL s

end Sys2Proof.Machine
end

