-- ==== Sys2Proof/Machine/Control.lean ====
section
/-! DEFINITION. Jumps, calls, returns and restarts (spec 46_control_transfer.md R190 to R201). No control transfer changes F. -/

namespace Sys2Proof.Machine

/-- `JR cc,e8`: three cycles taken, two not (R195). -/
def relJumpIf (cc : Cond) (e8 : Byte) (s : State) : Result :=
  if cond cc s then jumpTo (relativeTarget e8 s) 3 s else finish 2 2 s

/-- `JP cc,a16`: four cycles taken, three not (R192). -/
def absJumpIf (cc : Cond) (a16 : Word) (s : State) : Result :=
  if cond cc s then jumpTo a16 4 s else finish 3 3 s

/-- `push16(next); pc <- target` for an instruction of `len` bytes and `m` cycles (R196, R201). -/
def callTo (target : Word) (len m : Nat) (s : State) : Result := jumpTo target m (push16 (nextPC len s) s)

/-- `CALL cc,a16`: six cycles taken; not taken, three, and SP and memory stay (R190, R197). -/
def callIf (cc : Cond) (a16 : Word) (s : State) : Result :=
  if cond cc s then callTo a16 3 6 s else finish 3 3 s

/-- `pc <- pop16()` in `m` cycles (R198). -/
def returnTo (m : Nat) (s : State) : Result := jumpTo (pop16 s).1 m (pop16 s).2

/-- `RET cc`: five cycles taken; not taken, two, and SP stays (R190, R199). -/
def returnIf (cc : Cond) (s : State) : Result := if cond cc s then returnTo 5 s else finish 1 2 s

/-- `RST t`: `push16(next); pc <- 8*t`, one byte, four cycles (R201). -/
def restart (t : Fin 8) (s : State) : Result := callTo (BitVec.ofNat 16 (8 * t.val)) 1 4 s

/-- 0xC3 `JP a16` (R191). -/
def execJp_a16 (a16 : Word) (s : State) : Result := jumpTo a16 4 s

/-- 0xC2 `JP NZ,a16` (R192). -/
def execJp_NZ_a16 (a16 : Word) (s : State) : Result := absJumpIf .nz a16 s

/-- 0xCA `JP Z,a16` (R192). -/
def execJp_Z_a16 (a16 : Word) (s : State) : Result := absJumpIf .z a16 s

/-- 0xD2 `JP NC,a16` (R192). -/
def execJp_NC_a16 (a16 : Word) (s : State) : Result := absJumpIf .nc a16 s

/-- 0xDA `JP C,a16` (R192). -/
def execJp_C_a16 (a16 : Word) (s : State) : Result := absJumpIf .c a16 s

/-- 0xE9 `JP HL` (R193). -/
def execJp_HL (s : State) : Result := jumpTo (getPair .hl s) 1 s

/-- 0x18 `JR e8` (R194). -/
def execJr_e8 (e8 : Byte) (s : State) : Result := jumpTo (relativeTarget e8 s) 3 s

/-- 0x20 `JR NZ,e8` (R195). -/
def execJr_NZ_e8 (e8 : Byte) (s : State) : Result := relJumpIf .nz e8 s

/-- 0x28 `JR Z,e8` (R195). -/
def execJr_Z_e8 (e8 : Byte) (s : State) : Result := relJumpIf .z e8 s

/-- 0x30 `JR NC,e8` (R195). -/
def execJr_NC_e8 (e8 : Byte) (s : State) : Result := relJumpIf .nc e8 s

/-- 0x38 `JR C,e8` (R195). -/
def execJr_C_e8 (e8 : Byte) (s : State) : Result := relJumpIf .c e8 s

/-- 0xCD `CALL a16` (R196). -/
def execCall_a16 (a16 : Word) (s : State) : Result := callTo a16 3 6 s

/-- 0xC4 `CALL NZ,a16` (R197). -/
def execCall_NZ_a16 (a16 : Word) (s : State) : Result := callIf .nz a16 s

/-- 0xCC `CALL Z,a16` (R197). -/
def execCall_Z_a16 (a16 : Word) (s : State) : Result := callIf .z a16 s

/-- 0xD4 `CALL NC,a16` (R197). -/
def execCall_NC_a16 (a16 : Word) (s : State) : Result := callIf .nc a16 s

/-- 0xDC `CALL C,a16` (R197). -/
def execCall_C_a16 (a16 : Word) (s : State) : Result := callIf .c a16 s

/-- 0xC9 `RET` (R198). -/
def execRet (s : State) : Result := returnTo 4 s

/-- 0xC0 `RET NZ` (R199). -/
def execRet_NZ (s : State) : Result := returnIf .nz s

/-- 0xC8 `RET Z` (R199). -/
def execRet_Z (s : State) : Result := returnIf .z s

/-- 0xD0 `RET NC` (R199). -/
def execRet_NC (s : State) : Result := returnIf .nc s

/-- 0xD8 `RET C` (R199). -/
def execRet_C (s : State) : Result := returnIf .c s

/-- 0xD9 `RETI` (R200). -/
def execReti (s : State) : Result := jumpTo (pop16 s).1 4 (setIME true (pop16 s).2)

/-- 0xC7 `RST 00H` (R201). -/
def execRst_00H (s : State) : Result := restart 0 s

/-- 0xCF `RST 08H` (R201). -/
def execRst_08H (s : State) : Result := restart 1 s

/-- 0xD7 `RST 10H` (R201). -/
def execRst_10H (s : State) : Result := restart 2 s

/-- 0xDF `RST 18H` (R201). -/
def execRst_18H (s : State) : Result := restart 3 s

/-- 0xE7 `RST 20H` (R201). -/
def execRst_20H (s : State) : Result := restart 4 s

/-- 0xEF `RST 28H` (R201). -/
def execRst_28H (s : State) : Result := restart 5 s

/-- 0xF7 `RST 30H` (R201). -/
def execRst_30H (s : State) : Result := restart 6 s

/-- 0xFF `RST 38H` (R201). -/
def execRst_38H (s : State) : Result := restart 7 s

end Sys2Proof.Machine
end

