-- ==== Sys2Proof/Machine/Load16.lean ====
section
/-! DEFINITION. The 16-bit loads and the stack instructions (spec 41_load16_stack.md R120 to R127). Only POP AF and
LD HL,SP+e8 write flags. -/

namespace Sys2Proof.Machine

/-- `rr[p] <- d16` in three bytes and three cycles (R120). -/
def loadPairImm (p : Pair) (d16 : Word) (s : State) : Result := finish 3 3 (setPair p d16 s)

/-- `HL <- SP + sext_8(e8)` with the flags of R123; SP is unchanged. -/
def loadHLFromSP (e8 : Byte) (s : State) : Result :=
  let r := addSignedByte s.cpu.sp e8
  finish 2 3 (setFlags r.flags (setPair .hl r.value s))

/-- `push16(rr[p])` (R124): "The pushed value is read before SP or memory changes". -/
def pushPair (p : StackPair) (s : State) : Result := finish 1 4 (push16 (getStackPair p s) s)

/-- `rr[p] <- pop16()` (R125). -/
def popPair (p : StackPair) (s : State) : Result := finish 1 3 (setStackPair p (pop16 s).1 (pop16 s).2)

/-- 0x01 `LD BC,d16` (R120). -/
def execLd_BC_d16 (d16 : Word) (s : State) : Result := loadPairImm .bc d16 s

/-- 0x11 `LD DE,d16` (R120). -/
def execLd_DE_d16 (d16 : Word) (s : State) : Result := loadPairImm .de d16 s

/-- 0x21 `LD HL,d16` (R120). -/
def execLd_HL_d16 (d16 : Word) (s : State) : Result := loadPairImm .hl d16 s

/-- 0x31 `LD SP,d16` (R120). -/
def execLd_SP_d16 (d16 : Word) (s : State) : Result := loadPairImm .sp d16 s

/-- 0x08 `LD (a16),SP` (R121). -/
def execLd_atA16_SP (a16 : Word) (s : State) : Result := finish 3 5 (write16 a16 s.cpu.sp s)

/-- 0xF9 `LD SP,HL` (R122). -/
def execLd_SP_HL (s : State) : Result := finish 1 2 (setSP (getPair .hl s) s)

/-- 0xF8 `LD HL,SP+e8` (R123). -/
def execLd_HL_SPe8 (e8 : Byte) (s : State) : Result := loadHLFromSP e8 s

/-- 0xC5 `PUSH BC` (R124). -/
def execPush_BC (s : State) : Result := pushPair .bc s

/-- 0xD5 `PUSH DE` (R124). -/
def execPush_DE (s : State) : Result := pushPair .de s

/-- 0xE5 `PUSH HL` (R124). -/
def execPush_HL (s : State) : Result := pushPair .hl s

/-- 0xF5 `PUSH AF` (R124). -/
def execPush_AF (s : State) : Result := pushPair .af s

/-- 0xC1 `POP BC` (R125). -/
def execPop_BC (s : State) : Result := popPair .bc s

/-- 0xD1 `POP DE` (R125). -/
def execPop_DE (s : State) : Result := popPair .de s

/-- 0xE1 `POP HL` (R125). -/
def execPop_HL (s : State) : Result := popPair .hl s

/-- 0xF1 `POP AF` (R125). -/
def execPop_AF (s : State) : Result := popPair .af s

end Sys2Proof.Machine
end

