-- ==== Sys2Proof/Machine/Load8.lean ====
section
/-! DEFINITION. The 8-bit loads (spec 40_load8.md R100 to R118): five shared operations, then one meaning per row. No load
writes a flag, and a load cannot fault. -/

namespace Sys2Proof.Machine

/-- `x[r] <- x[r']` in one byte and one cycle (R100). -/
def loadReg (r r' : Reg8) (s : State) : Result := finish 1 1 (setReg r (getReg r' s) s)

/-- `x[r] <- d8` in two bytes and two cycles (R101). -/
def loadImm (r : Reg8) (d8 : Byte) (s : State) : Result := finish 2 2 (setReg r d8 s)

/-- `x[r] <- MemRead(addr, 1)` in `len` bytes and `m` cycles (R102, R105, R106, R109, R111, R113). -/
def loadFrom (r : Reg8) (addr : Word) (len m : Nat) (s : State) : Result :=
  finish len m (setReg r (read8 addr s).1 (read8 addr s).2)

/-- `MemWrite(addr, 1, v)` in `len` bytes and `m` cycles (R103, R104, R107, R108, R110, R112, R114). -/
def storeTo (addr : Word) (v : Byte) (len m : Nat) (s : State) : Result := finish len m (write8 addr v s)

/-- `MemWrite(HL, 1, A)`, then HL moves by `delta`: "The store uses the old HL" (R115, R117). -/
def storeThenStep (delta : Word) (s : State) : Result :=
  finish 1 2 (setPair .hl (getPair .hl s + delta) (write8 (getPair .hl s) (getReg .a s) s))

/-- `A <- MemRead(HL, 1)`, then HL moves by `delta` (R116, R118). -/
def loadThenStep (delta : Word) (s : State) : Result :=
  finish 1 2
    (setPair .hl (getPair .hl s + delta) (setReg .a (read8 (getPair .hl s) s).1 (read8 (getPair .hl s) s).2))

/-- 0x40 `LD B,B` (R100). -/
def execLd_B_B (s : State) : Result := loadReg .b .b s

/-- 0x41 `LD B,C` (R100). -/
def execLd_B_C (s : State) : Result := loadReg .b .c s

/-- 0x42 `LD B,D` (R100). -/
def execLd_B_D (s : State) : Result := loadReg .b .d s

/-- 0x43 `LD B,E` (R100). -/
def execLd_B_E (s : State) : Result := loadReg .b .e s

/-- 0x44 `LD B,H` (R100). -/
def execLd_B_H (s : State) : Result := loadReg .b .h s

/-- 0x45 `LD B,L` (R100). -/
def execLd_B_L (s : State) : Result := loadReg .b .l s

/-- 0x47 `LD B,A` (R100). -/
def execLd_B_A (s : State) : Result := loadReg .b .a s

/-- 0x48 `LD C,B` (R100). -/
def execLd_C_B (s : State) : Result := loadReg .c .b s

/-- 0x49 `LD C,C` (R100). -/
def execLd_C_C (s : State) : Result := loadReg .c .c s

/-- 0x4A `LD C,D` (R100). -/
def execLd_C_D (s : State) : Result := loadReg .c .d s

/-- 0x4B `LD C,E` (R100). -/
def execLd_C_E (s : State) : Result := loadReg .c .e s

/-- 0x4C `LD C,H` (R100). -/
def execLd_C_H (s : State) : Result := loadReg .c .h s

/-- 0x4D `LD C,L` (R100). -/
def execLd_C_L (s : State) : Result := loadReg .c .l s

/-- 0x4F `LD C,A` (R100). -/
def execLd_C_A (s : State) : Result := loadReg .c .a s

/-- 0x50 `LD D,B` (R100). -/
def execLd_D_B (s : State) : Result := loadReg .d .b s

/-- 0x51 `LD D,C` (R100). -/
def execLd_D_C (s : State) : Result := loadReg .d .c s

/-- 0x52 `LD D,D` (R100). -/
def execLd_D_D (s : State) : Result := loadReg .d .d s

/-- 0x53 `LD D,E` (R100). -/
def execLd_D_E (s : State) : Result := loadReg .d .e s

/-- 0x54 `LD D,H` (R100). -/
def execLd_D_H (s : State) : Result := loadReg .d .h s

/-- 0x55 `LD D,L` (R100). -/
def execLd_D_L (s : State) : Result := loadReg .d .l s

/-- 0x57 `LD D,A` (R100). -/
def execLd_D_A (s : State) : Result := loadReg .d .a s

/-- 0x58 `LD E,B` (R100). -/
def execLd_E_B (s : State) : Result := loadReg .e .b s

/-- 0x59 `LD E,C` (R100). -/
def execLd_E_C (s : State) : Result := loadReg .e .c s

/-- 0x5A `LD E,D` (R100). -/
def execLd_E_D (s : State) : Result := loadReg .e .d s

/-- 0x5B `LD E,E` (R100). -/
def execLd_E_E (s : State) : Result := loadReg .e .e s

/-- 0x5C `LD E,H` (R100). -/
def execLd_E_H (s : State) : Result := loadReg .e .h s

/-- 0x5D `LD E,L` (R100). -/
def execLd_E_L (s : State) : Result := loadReg .e .l s

/-- 0x5F `LD E,A` (R100). -/
def execLd_E_A (s : State) : Result := loadReg .e .a s

/-- 0x60 `LD H,B` (R100). -/
def execLd_H_B (s : State) : Result := loadReg .h .b s

/-- 0x61 `LD H,C` (R100). -/
def execLd_H_C (s : State) : Result := loadReg .h .c s

/-- 0x62 `LD H,D` (R100). -/
def execLd_H_D (s : State) : Result := loadReg .h .d s

/-- 0x63 `LD H,E` (R100). -/
def execLd_H_E (s : State) : Result := loadReg .h .e s

/-- 0x64 `LD H,H` (R100). -/
def execLd_H_H (s : State) : Result := loadReg .h .h s

/-- 0x65 `LD H,L` (R100). -/
def execLd_H_L (s : State) : Result := loadReg .h .l s

/-- 0x67 `LD H,A` (R100). -/
def execLd_H_A (s : State) : Result := loadReg .h .a s

/-- 0x68 `LD L,B` (R100). -/
def execLd_L_B (s : State) : Result := loadReg .l .b s

/-- 0x69 `LD L,C` (R100). -/
def execLd_L_C (s : State) : Result := loadReg .l .c s

/-- 0x6A `LD L,D` (R100). -/
def execLd_L_D (s : State) : Result := loadReg .l .d s

/-- 0x6B `LD L,E` (R100). -/
def execLd_L_E (s : State) : Result := loadReg .l .e s

/-- 0x6C `LD L,H` (R100). -/
def execLd_L_H (s : State) : Result := loadReg .l .h s

/-- 0x6D `LD L,L` (R100). -/
def execLd_L_L (s : State) : Result := loadReg .l .l s

/-- 0x6F `LD L,A` (R100). -/
def execLd_L_A (s : State) : Result := loadReg .l .a s

/-- 0x78 `LD A,B` (R100). -/
def execLd_A_B (s : State) : Result := loadReg .a .b s

/-- 0x79 `LD A,C` (R100). -/
def execLd_A_C (s : State) : Result := loadReg .a .c s

/-- 0x7A `LD A,D` (R100). -/
def execLd_A_D (s : State) : Result := loadReg .a .d s

/-- 0x7B `LD A,E` (R100). -/
def execLd_A_E (s : State) : Result := loadReg .a .e s

/-- 0x7C `LD A,H` (R100). -/
def execLd_A_H (s : State) : Result := loadReg .a .h s

/-- 0x7D `LD A,L` (R100). -/
def execLd_A_L (s : State) : Result := loadReg .a .l s

/-- 0x7F `LD A,A` (R100). -/
def execLd_A_A (s : State) : Result := loadReg .a .a s

/-- 0x06 `LD B,d8` (R101). -/
def execLd_B_d8 (d8 : Byte) (s : State) : Result := loadImm .b d8 s

/-- 0x0E `LD C,d8` (R101). -/
def execLd_C_d8 (d8 : Byte) (s : State) : Result := loadImm .c d8 s

/-- 0x16 `LD D,d8` (R101). -/
def execLd_D_d8 (d8 : Byte) (s : State) : Result := loadImm .d d8 s

/-- 0x1E `LD E,d8` (R101). -/
def execLd_E_d8 (d8 : Byte) (s : State) : Result := loadImm .e d8 s

/-- 0x26 `LD H,d8` (R101). -/
def execLd_H_d8 (d8 : Byte) (s : State) : Result := loadImm .h d8 s

/-- 0x2E `LD L,d8` (R101). -/
def execLd_L_d8 (d8 : Byte) (s : State) : Result := loadImm .l d8 s

/-- 0x3E `LD A,d8` (R101). -/
def execLd_A_d8 (d8 : Byte) (s : State) : Result := loadImm .a d8 s

/-- 0x46 `LD B,(HL)` (R102). -/
def execLd_B_atHL (s : State) : Result := loadFrom .b (getPair .hl s) 1 2 s

/-- 0x4E `LD C,(HL)` (R102). -/
def execLd_C_atHL (s : State) : Result := loadFrom .c (getPair .hl s) 1 2 s

/-- 0x56 `LD D,(HL)` (R102). -/
def execLd_D_atHL (s : State) : Result := loadFrom .d (getPair .hl s) 1 2 s

/-- 0x5E `LD E,(HL)` (R102). -/
def execLd_E_atHL (s : State) : Result := loadFrom .e (getPair .hl s) 1 2 s

/-- 0x66 `LD H,(HL)` (R102). -/
def execLd_H_atHL (s : State) : Result := loadFrom .h (getPair .hl s) 1 2 s

/-- 0x6E `LD L,(HL)` (R102). -/
def execLd_L_atHL (s : State) : Result := loadFrom .l (getPair .hl s) 1 2 s

/-- 0x7E `LD A,(HL)` (R102). -/
def execLd_A_atHL (s : State) : Result := loadFrom .a (getPair .hl s) 1 2 s

/-- 0x70 `LD (HL),B` (R103). -/
def execLd_atHL_B (s : State) : Result := storeTo (getPair .hl s) (getReg .b s) 1 2 s

/-- 0x71 `LD (HL),C` (R103). -/
def execLd_atHL_C (s : State) : Result := storeTo (getPair .hl s) (getReg .c s) 1 2 s

/-- 0x72 `LD (HL),D` (R103). -/
def execLd_atHL_D (s : State) : Result := storeTo (getPair .hl s) (getReg .d s) 1 2 s

/-- 0x73 `LD (HL),E` (R103). -/
def execLd_atHL_E (s : State) : Result := storeTo (getPair .hl s) (getReg .e s) 1 2 s

/-- 0x74 `LD (HL),H` (R103). -/
def execLd_atHL_H (s : State) : Result := storeTo (getPair .hl s) (getReg .h s) 1 2 s

/-- 0x75 `LD (HL),L` (R103). -/
def execLd_atHL_L (s : State) : Result := storeTo (getPair .hl s) (getReg .l s) 1 2 s

/-- 0x77 `LD (HL),A` (R103). -/
def execLd_atHL_A (s : State) : Result := storeTo (getPair .hl s) (getReg .a s) 1 2 s

/-- 0x36 `LD (HL),d8` (R104). -/
def execLd_atHL_d8 (d8 : Byte) (s : State) : Result := storeTo (getPair .hl s) d8 2 3 s

/-- 0x0A `LD A,(BC)` (R105). -/
def execLd_A_atBC (s : State) : Result := loadFrom .a (getPair .bc s) 1 2 s

/-- 0x1A `LD A,(DE)` (R106). -/
def execLd_A_atDE (s : State) : Result := loadFrom .a (getPair .de s) 1 2 s

/-- 0x02 `LD (BC),A` (R107). -/
def execLd_atBC_A (s : State) : Result := storeTo (getPair .bc s) (getReg .a s) 1 2 s

/-- 0x12 `LD (DE),A` (R108). -/
def execLd_atDE_A (s : State) : Result := storeTo (getPair .de s) (getReg .a s) 1 2 s

/-- 0xFA `LD A,(a16)` (R109). -/
def execLd_A_atA16 (a16 : Word) (s : State) : Result := loadFrom .a a16 3 4 s

/-- 0xEA `LD (a16),A` (R110). -/
def execLd_atA16_A (a16 : Word) (s : State) : Result := storeTo a16 (getReg .a s) 3 4 s

/-- 0xF2 `LDH A,(C)` (R111). -/
def execLdh_A_atC (s : State) : Result := loadFrom .a (highPage s.cpu.c) 1 2 s

/-- 0xE2 `LDH (C),A` (R112). -/
def execLdh_atC_A (s : State) : Result := storeTo (highPage s.cpu.c) (getReg .a s) 1 2 s

/-- 0xF0 `LDH A,(a8)` (R113). -/
def execLdh_A_atA8 (a8 : Byte) (s : State) : Result := loadFrom .a (highPage a8) 2 3 s

/-- 0xE0 `LDH (a8),A` (R114). -/
def execLdh_atA8_A (a8 : Byte) (s : State) : Result := storeTo (highPage a8) (getReg .a s) 2 3 s

/-- 0x22 `LD (HL+),A` (R115). -/
def execLd_atHLinc_A (s : State) : Result := storeThenStep 1 s

/-- 0x2A `LD A,(HL+)` (R116). -/
def execLd_A_atHLinc (s : State) : Result := loadThenStep 1 s

/-- 0x32 `LD (HL-),A` (R117). -/
def execLd_atHLdec_A (s : State) : Result := storeThenStep (-1) s

/-- 0x3A `LD A,(HL-)` (R118). -/
def execLd_A_atHLdec (s : State) : Result := loadThenStep (-1) s

end Sys2Proof.Machine
end

