-- ==== Sys2Proof/Machine/Rotate.lean ====
section
/-! DEFINITION. Rotates, shifts and swap (spec 44_rotate_shift.md R160 to R172). -/

namespace Sys2Proof.Machine

/-- The accumulator rotates: one byte, one cycle, Z cleared (R160 to R163). -/
def rotAcc (op : RotOp) (s : State) : Result :=
  let r := rotAccResult op s.cpu.a (flagOf .c s)
  finish 1 1 (setFlags r.flags (setReg .a r.value s))

/-- `rot r` and `rot (HL)`: read, write back, flags; two cycles on a register, four on the byte at HL (R164). -/
def rotOperand (op : RotOp) (o : Operand8) (s : State) : Result :=
  let r := rotResult op (readOperand o s).1 (flagOf .c s)
  finish 2 (operandCycles o 2 4) (setFlags r.flags (writeOperand o r.value (readOperand o s).2))

/-- 0x07 `RLCA` (R160). -/
def execRlca (s : State) : Result := rotAcc .rlc s

/-- 0x0F `RRCA` (R161). -/
def execRrca (s : State) : Result := rotAcc .rrc s

/-- 0x17 `RLA` (R162). -/
def execRla (s : State) : Result := rotAcc .rl s

/-- 0x1F `RRA` (R163). -/
def execRra (s : State) : Result := rotAcc .rr s

/-- 0xCB00 `RLC B` (R165). -/
def execRlc_B (s : State) : Result := rotOperand .rlc (.reg .b) s

/-- 0xCB01 `RLC C` (R165). -/
def execRlc_C (s : State) : Result := rotOperand .rlc (.reg .c) s

/-- 0xCB02 `RLC D` (R165). -/
def execRlc_D (s : State) : Result := rotOperand .rlc (.reg .d) s

/-- 0xCB03 `RLC E` (R165). -/
def execRlc_E (s : State) : Result := rotOperand .rlc (.reg .e) s

/-- 0xCB04 `RLC H` (R165). -/
def execRlc_H (s : State) : Result := rotOperand .rlc (.reg .h) s

/-- 0xCB05 `RLC L` (R165). -/
def execRlc_L (s : State) : Result := rotOperand .rlc (.reg .l) s

/-- 0xCB06 `RLC (HL)` (R165). -/
def execRlc_atHL (s : State) : Result := rotOperand .rlc .atHL s

/-- 0xCB07 `RLC A` (R165). -/
def execRlc_A (s : State) : Result := rotOperand .rlc (.reg .a) s

/-- 0xCB08 `RRC B` (R166). -/
def execRrc_B (s : State) : Result := rotOperand .rrc (.reg .b) s

/-- 0xCB09 `RRC C` (R166). -/
def execRrc_C (s : State) : Result := rotOperand .rrc (.reg .c) s

/-- 0xCB0A `RRC D` (R166). -/
def execRrc_D (s : State) : Result := rotOperand .rrc (.reg .d) s

/-- 0xCB0B `RRC E` (R166). -/
def execRrc_E (s : State) : Result := rotOperand .rrc (.reg .e) s

/-- 0xCB0C `RRC H` (R166). -/
def execRrc_H (s : State) : Result := rotOperand .rrc (.reg .h) s

/-- 0xCB0D `RRC L` (R166). -/
def execRrc_L (s : State) : Result := rotOperand .rrc (.reg .l) s

/-- 0xCB0E `RRC (HL)` (R166). -/
def execRrc_atHL (s : State) : Result := rotOperand .rrc .atHL s

/-- 0xCB0F `RRC A` (R166). -/
def execRrc_A (s : State) : Result := rotOperand .rrc (.reg .a) s

/-- 0xCB10 `RL B` (R167). -/
def execRl_B (s : State) : Result := rotOperand .rl (.reg .b) s

/-- 0xCB11 `RL C` (R167). -/
def execRl_C (s : State) : Result := rotOperand .rl (.reg .c) s

/-- 0xCB12 `RL D` (R167). -/
def execRl_D (s : State) : Result := rotOperand .rl (.reg .d) s

/-- 0xCB13 `RL E` (R167). -/
def execRl_E (s : State) : Result := rotOperand .rl (.reg .e) s

/-- 0xCB14 `RL H` (R167). -/
def execRl_H (s : State) : Result := rotOperand .rl (.reg .h) s

/-- 0xCB15 `RL L` (R167). -/
def execRl_L (s : State) : Result := rotOperand .rl (.reg .l) s

/-- 0xCB16 `RL (HL)` (R167). -/
def execRl_atHL (s : State) : Result := rotOperand .rl .atHL s

/-- 0xCB17 `RL A` (R167). -/
def execRl_A (s : State) : Result := rotOperand .rl (.reg .a) s

/-- 0xCB18 `RR B` (R168). -/
def execRr_B (s : State) : Result := rotOperand .rr (.reg .b) s

/-- 0xCB19 `RR C` (R168). -/
def execRr_C (s : State) : Result := rotOperand .rr (.reg .c) s

/-- 0xCB1A `RR D` (R168). -/
def execRr_D (s : State) : Result := rotOperand .rr (.reg .d) s

/-- 0xCB1B `RR E` (R168). -/
def execRr_E (s : State) : Result := rotOperand .rr (.reg .e) s

/-- 0xCB1C `RR H` (R168). -/
def execRr_H (s : State) : Result := rotOperand .rr (.reg .h) s

/-- 0xCB1D `RR L` (R168). -/
def execRr_L (s : State) : Result := rotOperand .rr (.reg .l) s

/-- 0xCB1E `RR (HL)` (R168). -/
def execRr_atHL (s : State) : Result := rotOperand .rr .atHL s

/-- 0xCB1F `RR A` (R168). -/
def execRr_A (s : State) : Result := rotOperand .rr (.reg .a) s

/-- 0xCB20 `SLA B` (R169). -/
def execSla_B (s : State) : Result := rotOperand .sla (.reg .b) s

/-- 0xCB21 `SLA C` (R169). -/
def execSla_C (s : State) : Result := rotOperand .sla (.reg .c) s

/-- 0xCB22 `SLA D` (R169). -/
def execSla_D (s : State) : Result := rotOperand .sla (.reg .d) s

/-- 0xCB23 `SLA E` (R169). -/
def execSla_E (s : State) : Result := rotOperand .sla (.reg .e) s

/-- 0xCB24 `SLA H` (R169). -/
def execSla_H (s : State) : Result := rotOperand .sla (.reg .h) s

/-- 0xCB25 `SLA L` (R169). -/
def execSla_L (s : State) : Result := rotOperand .sla (.reg .l) s

/-- 0xCB26 `SLA (HL)` (R169). -/
def execSla_atHL (s : State) : Result := rotOperand .sla .atHL s

/-- 0xCB27 `SLA A` (R169). -/
def execSla_A (s : State) : Result := rotOperand .sla (.reg .a) s

/-- 0xCB28 `SRA B` (R170). -/
def execSra_B (s : State) : Result := rotOperand .sra (.reg .b) s

/-- 0xCB29 `SRA C` (R170). -/
def execSra_C (s : State) : Result := rotOperand .sra (.reg .c) s

/-- 0xCB2A `SRA D` (R170). -/
def execSra_D (s : State) : Result := rotOperand .sra (.reg .d) s

/-- 0xCB2B `SRA E` (R170). -/
def execSra_E (s : State) : Result := rotOperand .sra (.reg .e) s

/-- 0xCB2C `SRA H` (R170). -/
def execSra_H (s : State) : Result := rotOperand .sra (.reg .h) s

/-- 0xCB2D `SRA L` (R170). -/
def execSra_L (s : State) : Result := rotOperand .sra (.reg .l) s

/-- 0xCB2E `SRA (HL)` (R170). -/
def execSra_atHL (s : State) : Result := rotOperand .sra .atHL s

/-- 0xCB2F `SRA A` (R170). -/
def execSra_A (s : State) : Result := rotOperand .sra (.reg .a) s

/-- 0xCB30 `SWAP B` (R171). -/
def execSwap_B (s : State) : Result := rotOperand .swap (.reg .b) s

/-- 0xCB31 `SWAP C` (R171). -/
def execSwap_C (s : State) : Result := rotOperand .swap (.reg .c) s

/-- 0xCB32 `SWAP D` (R171). -/
def execSwap_D (s : State) : Result := rotOperand .swap (.reg .d) s

/-- 0xCB33 `SWAP E` (R171). -/
def execSwap_E (s : State) : Result := rotOperand .swap (.reg .e) s

/-- 0xCB34 `SWAP H` (R171). -/
def execSwap_H (s : State) : Result := rotOperand .swap (.reg .h) s

/-- 0xCB35 `SWAP L` (R171). -/
def execSwap_L (s : State) : Result := rotOperand .swap (.reg .l) s

/-- 0xCB36 `SWAP (HL)` (R171). -/
def execSwap_atHL (s : State) : Result := rotOperand .swap .atHL s

/-- 0xCB37 `SWAP A` (R171). -/
def execSwap_A (s : State) : Result := rotOperand .swap (.reg .a) s

/-- 0xCB38 `SRL B` (R172). -/
def execSrl_B (s : State) : Result := rotOperand .srl (.reg .b) s

/-- 0xCB39 `SRL C` (R172). -/
def execSrl_C (s : State) : Result := rotOperand .srl (.reg .c) s

/-- 0xCB3A `SRL D` (R172). -/
def execSrl_D (s : State) : Result := rotOperand .srl (.reg .d) s

/-- 0xCB3B `SRL E` (R172). -/
def execSrl_E (s : State) : Result := rotOperand .srl (.reg .e) s

/-- 0xCB3C `SRL H` (R172). -/
def execSrl_H (s : State) : Result := rotOperand .srl (.reg .h) s

/-- 0xCB3D `SRL L` (R172). -/
def execSrl_L (s : State) : Result := rotOperand .srl (.reg .l) s

/-- 0xCB3E `SRL (HL)` (R172). -/
def execSrl_atHL (s : State) : Result := rotOperand .srl .atHL s

/-- 0xCB3F `SRL A` (R172). -/
def execSrl_A (s : State) : Result := rotOperand .srl (.reg .a) s

end Sys2Proof.Machine
end

