-- ==== Sys2Proof/Machine/Misc.lean ====
section
/-! DEFINITION. NOP, STOP, HALT, DI, EI, the prefix byte and the illegal opcodes (spec 47_misc_control.md R210 to R216). STOP and HALT are
"recognized but produce no effect beyond consuming one cycle". -/

namespace Sys2Proof.Machine

/-- The instruction of the extended table with key `0xCB00 + ext`, by its fields (R215; 30_encoding.md R76; log 8). -/
def extended (ext : Byte) (s : State) : Result :=
  match fieldX ext with
  | 0 => rotOperand (rotOfCode (fieldY ext)) (operandOfCode (fieldZ ext)) s
  | 1 => testOperand (fieldY ext) (operandOfCode (fieldZ ext)) s
  | 2 => resetOperand (fieldY ext) (operandOfCode (fieldZ ext)) s
  | 3 => setOperand (fieldY ext) (operandOfCode (fieldZ ext)) s

/-- 0x00 `NOP` (R210). -/
def execNop (s : State) : Result := finish 1 1 s

/-- 0x10 `STOP` (R211). -/
def execStop (s : State) : Result := finish 1 1 s

/-- 0x76 `HALT` (R212). -/
def execHalt (s : State) : Result := finish 1 1 s

/-- 0xF3 `DI` (R213). -/
def execDi (s : State) : Result := finish 1 1 (setIME false s)

/-- 0xFB `EI` (R214). -/
def execEi (s : State) : Result := finish 1 1 (setIME true s)

/-- 0xCB `PREFIX CB` (R215). -/
def execPrefix_CB (ext : Byte) (s : State) : Result := extended ext s

/-- 0xD3 `ILLEGAL_D3` (R216). -/
def execIllegal_D3 (s : State) : Result := raiseUnimplementedOpcode 0xD3 s

/-- 0xDB `ILLEGAL_DB` (R216). -/
def execIllegal_DB (s : State) : Result := raiseUnimplementedOpcode 0xDB s

/-- 0xDD `ILLEGAL_DD` (R216). -/
def execIllegal_DD (s : State) : Result := raiseUnimplementedOpcode 0xDD s

/-- 0xE3 `ILLEGAL_E3` (R216). -/
def execIllegal_E3 (s : State) : Result := raiseUnimplementedOpcode 0xE3 s

/-- 0xE4 `ILLEGAL_E4` (R216). -/
def execIllegal_E4 (s : State) : Result := raiseUnimplementedOpcode 0xE4 s

/-- 0xEB `ILLEGAL_EB` (R216). -/
def execIllegal_EB (s : State) : Result := raiseUnimplementedOpcode 0xEB s

/-- 0xEC `ILLEGAL_EC` (R216). -/
def execIllegal_EC (s : State) : Result := raiseUnimplementedOpcode 0xEC s

/-- 0xED `ILLEGAL_ED` (R216). -/
def execIllegal_ED (s : State) : Result := raiseUnimplementedOpcode 0xED s

/-- 0xF4 `ILLEGAL_F4` (R216). -/
def execIllegal_F4 (s : State) : Result := raiseUnimplementedOpcode 0xF4 s

/-- 0xFC `ILLEGAL_FC` (R216). -/
def execIllegal_FC (s : State) : Result := raiseUnimplementedOpcode 0xFC s

/-- 0xFD `ILLEGAL_FD` (R216). -/
def execIllegal_FD (s : State) : Result := raiseUnimplementedOpcode 0xFD s

end Sys2Proof.Machine
end

