-- ==== Sys2Proof/Machine/Fetch.lean ====
section
/-! DEFINITION. Fetching an instruction's bytes (spec 30_encoding.md R70, R71, R79; 20_memory.md R55), and placing an instruction where
the next fetch reads it (log 7). -/

namespace Sys2Proof.Machine

/-- Read `n` bytes from `addr` on, in increasing address order, wrapping (R60, R48). -/
def readBytes : Nat → Word → State → List Byte × State
  | 0, _, s => ([], s)
  | n + 1, addr, s =>
    let r := read8 addr s
    let rest := readBytes n (addr + 1) r.2
    (r.1 :: rest.1, rest.2)

/-- The bytes of the instruction at PC: byte 0, then as many more as byte 0 says (R70, R71, R79; log 6). -/
def fetchInstr (s : State) : List Byte × State :=
  let r := read8 s.cpu.pc s
  let rest := readBytes (instrLength r.1 - 1) (s.cpu.pc + 1) r.2
  (r.1 :: rest.1, rest.2)

/-- Put a byte at a place from outside the machine: a cell of a storage array, the read-only ones too. -/
def pokePlace (p : Place) (v : Byte) (s : State) : State :=
  match p with
  | .boot k => { s with mmu := { s.mmu with boot := memSet s.mmu.boot k v } }
  | .rom k => { s with mmu := { s.mmu with rom := memSet s.mmu.rom k v } }
  | p => writePlace p v s

/-- Put bytes at consecutive addresses from outside the machine. -/
def pokeBytes : Word → List Byte → State → State
  | _, [], s => s
  | addr, v :: vs, s => pokeBytes (addr + 1) vs (pokePlace (placeOf s addr) v s)

/-- An address whose byte is a cell of a storage array. -/
def isStorage (s : State) (addr : Word) : Bool :=
  match placeOf s addr with
  | .gpuReg _ => false
  | .unmapped => false
  | _ => true

/-- The state whose next fetch will read a storage array: the boot overlay is off, and PC stays unless one of the three bytes from it
on is a GPU register or unclaimed, where nothing can be placed; then PC is 0x0000 (log 7). -/
def readyToFetch (s : State) : State :=
  let s := { s with mmu := { s.mmu with inBios := false } }
  if isStorage s s.cpu.pc && isStorage s (s.cpu.pc + 1) && isStorage s (s.cpu.pc + 2) then s
  else { s with cpu := { s.cpu with pc := 0x0000 } }

/-- The state whose next fetch reads the given bytes (log 7). -/
def placeAtFetch (bytes : List Byte) (s : State) : State :=
  pokeBytes (readyToFetch s).cpu.pc bytes (readyToFetch s)

end Sys2Proof.Machine
end

