-- ==== Sys2Proof/Machine/GpuExec.lean ====
section
/-! DEFINITION. The GPU's advance (spec 60_exceptions.md R255, R256) and its scanline rasterizer (R260 to R264). The window layer is a
stub and sprites are not rendered (R263, R264; log 16). -/

namespace Sys2Proof.Machine

/-- Ticks of mode 2, OAM scan (R255). -/
def oamScanTicks : Nat := 80
/-- Ticks of mode 3, VRAM scan (R255). -/
def vramScanTicks : Nat := 172
/-- Ticks of mode 0, HBlank (R255). -/
def hblankTicks : Nat := 204
/-- Ticks of mode 1, VBlank (R255). -/
def vblankTicks : Nat := 456

/-- "each machine cycle corresponds to 4 master clock ticks" (00_scope.md R4, R8). -/
def ticksPerCycle : Nat := 4

/-- `TileNumber(idx)`: unsigned with LCDC[4], else `256 + sext_8(idx)` (R261). -/
def tileNumber (lcdc idx : Byte) : Nat :=
  if lcdc.getLsbD 4 then idx.toNat else (256 + idx.toInt).toNat

/-- The offset in `vram` of the selected background tile map: LCDC[3] (R254, R260). -/
def tileMapBase (lcdc : Byte) : Nat := if lcdc.getLsbD 3 then 0x1C00 else 0x1800

/-- The 2-bit colour number of pixel `px` of the current scanline (R260). -/
def colourNumber (g : Gpu) (px : Nat) : Nat :=
  let y := (g.scy.toNat + g.ly.toNat) % 256
  let x := (g.scx.toNat + px) % 256
  let idx := memGet g.vram (tileMapBase g.lcdc + y / 8 * 32 + x / 8)
  let off := tileNumber g.lcdc idx * 16 + y % 8 * 2
  let lo := memGet g.vram off
  let hi := memGet g.vram (off + 1)
  let bit := 7 - x % 8
  (if hi.getLsbD bit then 2 else 0) + (if lo.getLsbD bit then 1 else 0)

/-- The palette's 2-bit shade of a colour number: `(BGP >> (2 * cn)) & 3` (R260; conflict C7). -/
def shadeOf (bgp : Byte) (cn : Nat) : Nat := bgp.toNat / 2 ^ (2 * cn) % 4

/-- The intensity of pixel `px` of the current scanline: `255 - shade * 85` (R260). -/
def pixelIntensity (g : Gpu) (px : Nat) : Byte := BitVec.ofNat 8 (255 - shadeOf g.bgp (colourNumber g px) * 85)

/-- Write one RGBA pixel of the framebuffer at byte offset `o`: three equal channels and an opaque alpha (R260, R262). -/
def writePixel (fb : Memory) (o : Nat) (i : Byte) : Memory :=
  memSet (memSet (memSet (memSet fb o i) (o + 1) i) (o + 2) i) (o + 3) 0xFF

/-- The framebuffer with the pixels of the current scanline's first `n` columns written, in order (R260). -/
def renderPixels (g : Gpu) : Nat → Memory
  | 0 => g.fb
  | n + 1 => writePixel (renderPixels g n) ((g.ly.toNat * 160 + n) * 4) (pixelIntensity g n)

/-- `RenderScan()`: the background layer of scanline LY, 160 pixels, if LCDC[0] is set (R260). It writes only `fb`. -/
def renderScan (g : Gpu) : Gpu := if g.lcdc.getLsbD 0 then { g with fb := renderPixels g 160 } else g

/-- `GpuExecute(ticks)` (R255): one test, against the mode at entry; the excess over the threshold is dropped (D14). -/
def gpuExecute (ticks : Nat) (g : Gpu) : Gpu :=
  let clock := g.clock + ticks
  match g.mode with
  | .oamScan =>
    if oamScanTicks ≤ clock then { g with clock := 0, mode := .vramScan } else { g with clock := clock }
  | .vramScan =>
    if vramScanTicks ≤ clock then renderScan { g with clock := 0, mode := .hblank } else { g with clock := clock }
  | .hblank =>
    if hblankTicks ≤ clock then
      { g with clock := 0, ly := g.ly + 1, mode := if g.ly + 1 = 143 then .vblank else .oamScan }
    else { g with clock := clock }
  | .vblank =>
    if vblankTicks ≤ clock then
      (if 153 < (g.ly + 1).toNat then { g with clock := 0, ly := 0, mode := .oamScan }
       else { g with clock := 0, ly := g.ly + 1 })
    else { g with clock := clock }

/-- The GPU advance of a machine step: four ticks per machine cycle the CPU step returned (70_reset_and_hazards.md R290). -/
def gpuAdvance (s : State) : State := { s with gpu := gpuExecute (ticksPerCycle * s.cycles) s.gpu }

end Sys2Proof.Machine
end

