-- ==== Sys2Proof/Machine/Step.lean ====
section
/-! DEFINITION. One machine step (spec 70_reset_and_hazards.md R290): the CPU step of 30_encoding.md R70, then the GPU advance by four
ticks per machine cycle. A step that faults changes nothing and does not advance the GPU. -/

namespace Sys2Proof.Machine

/-- The CPU step: fetch, decode, execute (30_encoding.md R70). The model offers it only inside `step` (R285; log 15). -/
def cpuStep (s : State) : Host.Outcome State Fault Refusal :=
  match decode (fetchInstr s).1 with
  | .ok (i, _) => exec i (fetchInstr s).2
  | .error _ => .refused .undecodable

/-- The machine step: the CPU step, then the GPU advance by that step's cycles (70_reset_and_hazards.md R290). -/
def step (s : State) : Host.Outcome State Fault Refusal :=
  match cpuStep s with
  | .next t => .next (gpuAdvance t)
  | .fault r => .fault r
  | .refused r => .refused r

/-- The state whose next step fetches and runs the instruction the opcode table numbers as `w` (logs 7, 13). -/
def State.withFetchWord (s : State) (nbits w : Nat) : State := placeAtFetch (tableBytesPadded nbits w) s

end Sys2Proof.Machine
end

