-- ==== Sys2Proof/Machine/HostOps.lean ====
section
/-! DEFINITION. The host's operations between steps (spec 70_reset_and_hazards.md R280): `load` (20_memory.md R45) and `reset()`
(R283). Construction is `State.reset`; the framebuffer is read as `gpu.fb` (R286). -/

namespace Sys2Proof.Machine

/-- `load(bytes)`: the ROM from offset 0, truncated or zero-padded to 32 KB; nothing else changes (R45, R284). -/
def State.load (bytes : List Byte) (s : State) : State :=
  { s with mmu := { s.mmu with rom := memOfBytes 0 (bytes.take Config.romSize) } }

/-- `reset()`: every register row of R281 takes its reset value; every storage array keeps its contents (R283, R265). Of the model's own
fields, the returned count goes to zero and the free values go on (log 17). -/
def State.hostReset (s : State) : State :=
  { cpu := Cpu.reset
    mmu := { s.mmu with inBios := Config.inBiosReset }
    gpu := { Gpu.reset with vram := s.gpu.vram, oam := s.gpu.oam, fb := s.gpu.fb }
    cycles := 0
    draws := s.draws }

end Sys2Proof.Machine
end

