-- ==== Sys2Proof/Safety.lean ====
section
/-! DEFINITION. What claims call a good state and a run: the invariants the spec states of the machine (10_state.md R12; 20_memory.md
R32; 60_exceptions.md R253, R256), and runs of machine steps with no fault (60_exceptions.md R230; 70_reset_and_hazards.md R289). -/

namespace Sys2Proof.Machine

/-- "F's low nibble is architecturally always zero" (10_state.md R12). -/
def flagsOk (s : State) : Bool := s.cpu.f &&& 0x0F == 0x00

/-- Every storage array is in its canonical form and inside its size (20_memory.md R32; log 10). -/
def arraysOk (s : State) : Bool :=
  (Memory.wf s.mmu.boot && Memory.inBounds Config.bootSize s.mmu.boot) &&
  (Memory.wf s.mmu.rom && Memory.inBounds Config.romSize s.mmu.rom) &&
  (Memory.wf s.mmu.eram && Memory.inBounds Config.eramSize s.mmu.eram) &&
  (Memory.wf s.mmu.wram && Memory.inBounds Config.wramSize s.mmu.wram) &&
  (Memory.wf s.mmu.zram && Memory.inBounds Config.zramSize s.mmu.zram) &&
  (Memory.wf s.gpu.vram && Memory.inBounds Config.vramSize s.gpu.vram) &&
  (Memory.wf s.gpu.oam && Memory.inBounds Config.oamSize s.gpu.oam) &&
  (Memory.wf s.gpu.fb && Memory.inBounds Config.fbSize s.gpu.fb)

/-- The threshold of a GPU mode, in clock ticks (60_exceptions.md R255). -/
def modeTicks : GpuMode → Nat
  | .hblank => hblankTicks
  | .vblank => vblankTicks
  | .oamScan => oamScanTicks
  | .vramScan => vramScanTicks

/-- The GPU is at a point of its line sequence: lines 0 to 142 in modes 2, 3 and 0, lines 143 to 153 in mode 1, and the
mode clock below the mode's threshold (60_exceptions.md R253, R256). -/
def gpuOk (g : Gpu) : Bool :=
  decide (g.clock < modeTicks g.mode) &&
  (if g.mode = .vblank then decide (143 ≤ g.ly.toNat ∧ g.ly.toNat ≤ 153) else decide (g.ly.toNat ≤ 142))

/-- A good state: every invariant at once. -/
def State.ok (s : State) : Bool := flagsOk s && arraysOk s && gpuOk s.gpu

/-- `n` machine steps, none of them a fault, lead from `s` to `t` (70_reset_and_hazards.md R289). -/
def StepsTo : Nat → State → State → Prop
  | 0, s, t => s = t
  | n + 1, s, t => ∃ u, step s = .next u ∧ StepsTo n u t

/-- A safe run: `n` steps from `s` raise no fault (60_exceptions.md R230: "A claim about a program must have "no fault raised" as a premise
or prove it"). -/
def SafeRun (n : Nat) (s : State) : Prop := ∃ t, StepsTo n s t

/-! ### Codes and encodings as claims write them -/

/-- The code of a register (30_encoding.md R64). -/
def regCode : Reg8 → Nat
  | .b => 0
  | .c => 1
  | .d => 2
  | .e => 3
  | .h => 4
  | .l => 5
  | .a => 7

/-- The code of an 8-bit operand; 6 is the byte at address HL (30_encoding.md R64). -/
def operandCode : Operand8 → Nat
  | .reg r => regCode r
  | .atHL => 6

/-- The pair code of LD rr,d16, ADD HL,rr, INC rr and DEC rr (30_encoding.md R65). -/
def pairCode : Pair → Nat
  | .bc => 0
  | .de => 1
  | .hl => 2
  | .sp => 3

/-- The pair code of PUSH and POP (30_encoding.md R66). -/
def stackPairCode : StackPair → Nat
  | .bc => 0
  | .de => 1
  | .hl => 2
  | .af => 3

/-- The condition code (30_encoding.md R67). -/
def condCode : Cond → Nat
  | .nz => 0
  | .z => 1
  | .nc => 2
  | .c => 3

/-- The code of a rotate or shift operation (30_encoding.md R69). -/
def rotCode : RotOp → Nat
  | .rlc => 0
  | .rrc => 1
  | .rl => 2
  | .rr => 3
  | .sla => 4
  | .sra => 5
  | .swap => 6
  | .srl => 7

/-- An opcode byte by its number. -/
def opcode (n : Nat) : Byte := BitVec.ofNat 8 n

/-- The opcodes of JP, JR, CALL, RET, RETI and RST, which can set PC themselves (30_encoding.md R72, R73). -/
def transferOpcodes : List Byte :=
  [0x18, 0x20, 0x28, 0x30, 0x38, 0xC0, 0xC2, 0xC3, 0xC4, 0xC7, 0xC8, 0xC9, 0xCA, 0xCC, 0xCD, 0xCF] ++
  [0xD0, 0xD2, 0xD4, 0xD7, 0xD8, 0xD9, 0xDA, 0xDC, 0xDF, 0xE7, 0xE9, 0xEF, 0xF7, 0xFF]

/-- The first byte of an instruction's encoding. -/
def firstByte (i : Instr) : Byte := (encode i).headD 0

/-- Does a base opcode's instruction write any flag (10_state.md R21): the accumulator operations and CP; INC and DEC of a byte; DAA, CPL,
SCF, CCF and the accumulator rotates; ADD HL,rr; ADD SP,e8 and LD HL,SP+e8; POP AF. -/
def baseWritesFlags (op : Nat) : Bool :=
  (decide (0x80 ≤ op) && decide (op ≤ 0xBF)) || (decide (0xC0 ≤ op) && op % 8 == 6) ||
  (decide (op ≤ 0x3F) && (op % 8 == 4 || op % 8 == 5 || op % 8 == 7)) ||
  (decide (op ≤ 0x3F) && op % 16 == 9) || op == 0xE8 || op == 0xF8 || op == 0xF1

/-- The same for an extended opcode: the rotates and shifts and BIT write flags, RES and SET do not (10_state.md R21). -/
def extWritesFlags (ext : Nat) : Bool := decide (ext ≤ 0x7F)

/-- Does an instruction write any flag (10_state.md R21), by its encoding. -/
def writesFlags (i : Instr) : Bool :=
  match encode i with
  | [0xCB, ext] => extWritesFlags ext.toNat
  | op :: _ => baseWritesFlags op.toNat
  | [] => false

/-! ### What an instruction reads, as claims write it -/

/-- The byte a read of `addr` returns when `n` free values have been given before it (20_memory.md R40, R42). -/
def byteRead (n : Nat) (s : State) (addr : Word) : Byte := (byteAt s addr).getD (Config.unmappedRead n addr)

/-- How many free values a read of `addr` takes: one if no region claims it (20_memory.md R42; log 2). -/
def drawn (s : State) (addr : Word) : Nat := if byteAt s addr = none then 1 else 0

/-- The word a read of `addr` and `addr + 1` returns: the low byte at the lower address (20_memory.md R43), read
first (log 20). -/
def wordRead (s : State) (addr : Word) : Word :=
  wordOf (byteRead (s.draws + drawn s addr) s (addr + 1)) (byteRead s.draws s addr)

/-- The value of an 8-bit operand (30_encoding.md R64). -/
def operandByte (o : Operand8) (s : State) : Byte :=
  match o with
  | .reg r => getReg r s
  | .atHL => byteRead s.draws s (getPair .hl s)

/-- How many free values reading an 8-bit operand takes. -/
def operandDrawn (o : Operand8) (s : State) : Nat :=
  match o with
  | .reg _ => 0
  | .atHL => drawn s (getPair .hl s)

/-! ### What an instruction leaves alone -/

/-- Every 8-bit register but those listed keeps its value. -/
def keepsRegs (written : List Reg8) (s t : State) : Prop := ∀ q, q ∉ written → getReg q t = getReg q s

/-- Nothing outside the CPU changes: the MMU, the GPU, and so every byte an address reads as. -/
def keepsMemory (s t : State) : Prop := t.mmu = s.mmu ∧ t.gpu = s.gpu ∧ ∀ b, byteAt t b = byteAt s b

/-- What no instruction changes outside the CPU: the boot latch, the boot ROM, the ROM, the GPU's mode, clock, LY and framebuffer
(20_memory.md R33, R35; 60_exceptions.md R252, R262). -/
def keepsFixed (s t : State) : Prop :=
  t.mmu.inBios = s.mmu.inBios ∧ t.mmu.boot = s.mmu.boot ∧ t.mmu.rom = s.mmu.rom ∧
  t.gpu.mode = s.gpu.mode ∧ t.gpu.clock = s.gpu.clock ∧ t.gpu.ly = s.gpu.ly ∧ t.gpu.fb = s.gpu.fb

/-- What an address reads as once `v` has been stored there: a ROM address, LY and an unclaimed address as before; STAT its new
bits 7..2 over the mode; any other address `v` (20_memory.md R35, R41, R42; 60_exceptions.md R250 to R252, decisions D10, D15). -/
def afterStore (s : State) (addr : Word) (v : Byte) : Option Byte :=
  match placeOf s addr with
  | .boot _ => byteAt s addr
  | .rom _ => byteAt s addr
  | .unmapped => none
  | .gpuReg .ly => some s.gpu.ly
  | .gpuReg .stat => some ((v &&& 0xFC) ||| (modeBits s.gpu.mode).setWidth 8)
  | _ => some v

/-- From `s` to `t` the byte `v` is stored at `addr`: every address that names that byte (the echo window names a RAM byte too) reads
as it reads after the store, every other address as before. -/
def storesByte (addr : Word) (v : Byte) (s t : State) : Prop :=
  (∀ b, byteAt t b = if placeOf s b = placeOf s addr then afterStore s b v else byteAt s b) ∧ keepsFixed s t

/-- From `s` to `t` the word `v` is stored, its low byte at `addr` and its high byte at `addr + 1`: every address that names neither
byte reads as before (20_memory.md R44). -/
def storesWord (addr : Word) (v : Word) (s t : State) : Prop :=
  (∀ b, byteAt t b =
    if placeOf s b = placeOf s (addr + 1) then afterStore s b (highByte v)
    else if placeOf s b = placeOf s addr then afterStore s b (lowByte v)
    else byteAt s b) ∧ keepsFixed s t

/-- The instruction took `m` machine cycles and `n` free values and left PC at `target`. -/
def endsAt (target : Word) (m n : Nat) (s t : State) : Prop :=
  t.cpu.pc = target ∧ t.cycles = m ∧ t.draws = s.draws + n

/-- The instruction of `len` bytes took `m` machine cycles and `n` free values and left PC at the next one (30_encoding.md R72, R74). -/
def goesOn (len m n : Nat) (s t : State) : Prop := endsAt (s.cpu.pc + BitVec.ofNat 16 len) m n s t

/-- The frame of a form that writes only the listed registers: F, SP, IME and everything outside the CPU stay. -/
def onlyRegs (written : List Reg8) (s t : State) : Prop :=
  keepsRegs written s t ∧ t.cpu.f = s.cpu.f ∧ t.cpu.sp = s.cpu.sp ∧ t.cpu.ime = s.cpu.ime ∧ keepsMemory s t

/-- The frame of a form that writes only the listed registers and F, which becomes `f`. -/
def onlyRegsAndFlags (written : List Reg8) (f : Byte) (s t : State) : Prop :=
  keepsRegs written s t ∧ t.cpu.f = f ∧ t.cpu.sp = s.cpu.sp ∧ t.cpu.ime = s.cpu.ime ∧ keepsMemory s t

/-- The frame of a form that writes only one 16-bit register, which becomes `v`, and F, which becomes `f`. -/
def onlyPair (p : Pair) (v : Word) (f : Byte) (s t : State) : Prop :=
  getPair p t = v ∧ (∀ q, q ≠ p → getPair q t = getPair q s) ∧ t.cpu.a = s.cpu.a ∧ t.cpu.f = f ∧ t.cpu.ime = s.cpu.ime ∧
  keepsMemory s t

/-- The frame of a form that stores one byte and writes only the listed registers. -/
def onlyStores (written : List Reg8) (addr : Word) (v : Byte) (s t : State) : Prop :=
  keepsRegs written s t ∧ t.cpu.f = s.cpu.f ∧ t.cpu.sp = s.cpu.sp ∧ t.cpu.ime = s.cpu.ime ∧ storesByte addr v s t

/-- The frame of a form that writes an 8-bit operand, which becomes `v`, and F, which becomes `f`: a register, or the byte at HL
and no register at all. -/
def onlyOperand (o : Operand8) (v f : Byte) (s t : State) : Prop :=
  t.cpu.f = f ∧ t.cpu.sp = s.cpu.sp ∧ t.cpu.ime = s.cpu.ime ∧
  match o with
  | .reg r => getReg r t = v ∧ keepsRegs [r] s t ∧ keepsMemory s t
  | .atHL => keepsRegs [] s t ∧ storesByte (getPair .hl s) v s t

/-- The frame of a push of `v`: SP is two lower and the word is stored at the new SP (41_load16_stack.md R126). -/
def onlyPushes (v : Word) (s t : State) : Prop :=
  t.cpu.sp = s.cpu.sp - 2 ∧ keepsRegs [] s t ∧ t.cpu.f = s.cpu.f ∧ t.cpu.ime = s.cpu.ime ∧ storesWord (s.cpu.sp - 2) v s t

/-- How many free values a read of the word at `addr` takes. -/
def wordDrawn (s : State) (addr : Word) : Nat := drawn s addr + drawn s (addr + 1)

/-! ### Results as the spec computes them, on unbounded integers (00_scope.md R6) -/

/-- F with the four flags given (10_state.md R12). -/
def packFlags (z n h c : Bool) : Byte :=
  (if z then 0x80 else 0) ||| (if n then 0x40 else 0) ||| (if h then 0x20 else 0) ||| (if c then 0x10 else 0)

/-- A flag as the number 0 or 1. -/
def flagNat (g : Flag) (s : State) : Nat := if flagOf g s then 1 else 0

/-- A new value and the new F. -/
abbrev ValueFlags := Byte × Byte

/-- `A + v + k` (42_alu8.md R131, R132). -/
def specAdd (a v : Byte) (k : Nat) : ValueFlags :=
  let t := a.toNat + v.toNat + k
  (BitVec.ofNat 8 t, packFlags (decide (t % 256 = 0)) false (decide (15 < a.toNat % 16 + v.toNat % 16 + k)) (decide (255 < t)))

/-- `A - v - k` (42_alu8.md R133, R134). -/
def specSub (a v : Byte) (k : Nat) : ValueFlags :=
  let t : Int := (a.toNat : Int) - (v.toNat : Int) - (k : Int)
  (BitVec.ofInt 8 t,
    packFlags (decide (t % 256 = 0)) true (decide ((a.toNat : Int) % 16 - (v.toNat : Int) % 16 - (k : Int) < 0)) (decide (t < 0)))

/-- A logic operation's result `t` (42_alu8.md R135 to R137). -/
def specLogic (t : Byte) (h : Bool) : ValueFlags := (t, packFlags (decide (t = 0)) false h false)

/-- `INC` of a byte; `c` is the C flag before (42_alu8.md R139). -/
def specInc (v : Byte) (c : Bool) : ValueFlags :=
  (BitVec.ofNat 8 (v.toNat + 1), packFlags (decide (v.toNat = 255)) false (decide (v.toNat % 16 = 15)) c)

/-- `DEC` of a byte; `c` is the C flag before (42_alu8.md R141). -/
def specDec (v : Byte) (c : Bool) : ValueFlags :=
  (BitVec.ofInt 8 ((v.toNat : Int) - 1), packFlags (decide (v.toNat = 1)) true (decide (v.toNat % 16 = 0)) c)

/-- The rotates and shifts by their numbers: the new value and the bit moved into C; SWAP moves none (44_rotate_shift.md R160 to
R172). `k` is the C flag before. -/
def specRotate (op : RotOp) (v : Byte) (k : Nat) : Nat × Bool :=
  let n := v.toNat
  match op with
  | .rlc => (n * 2 % 256 + n / 128, decide (n / 128 = 1))
  | .rrc => (n / 2 + n % 2 * 128, decide (n % 2 = 1))
  | .rl => (n * 2 % 256 + k, decide (n / 128 = 1))
  | .rr => (n / 2 + k * 128, decide (n % 2 = 1))
  | .sla => (n * 2 % 256, decide (n / 128 = 1))
  | .sra => (n / 2 + n / 128 * 128, decide (n % 2 = 1))
  | .swap => (n % 16 * 16 + n / 16, false)
  | .srl => (n / 2, decide (n % 2 = 1))

/-- The flags of SP plus a signed byte: those of the unsigned addition of SP's low byte and the raw byte (41_load16_stack.md R123). -/
def specSPFlags (sp : Word) (e : Byte) : Byte :=
  packFlags false false (decide (15 < sp.toNat % 16 + e.toNat % 16)) (decide (255 < sp.toNat % 256 + e.toNat))

/-- SP plus a signed byte, as an integer reduced to 16 bits (41_load16_stack.md R123, 43_alu16.md R153). -/
def specSPSum (sp : Word) (e : Byte) : Word :=
  BitVec.ofInt 16 ((sp.toNat : Int) + (if e.toNat < 128 then (e.toNat : Int) else (e.toNat : Int) - 256))

/-- The target of a relative jump at `pc` (46_control_transfer.md R194). -/
def specRelative (pc : Word) (e : Byte) : Word :=
  BitVec.ofInt 16 ((pc.toNat : Int) + 2 + (if e.toNat < 128 then (e.toNat : Int) else (e.toNat : Int) - 256))

/-- `cond(cc)` on the bits of F (46_control_transfer.md R190). -/
def specCond (cc : Cond) (f : Byte) : Bool :=
  match cc with
  | .nz => !f.getLsbD 7
  | .z => f.getLsbD 7
  | .nc => !f.getLsbD 4
  | .c => f.getLsbD 4

/-- The packed BCD byte of a number below 100: tens in bits 7..4, ones in bits 3..0 (42_alu8.md R143). -/
def bcd (n : Nat) : Byte := BitVec.ofNat 8 (n / 10 * 16 + n % 10)

end Sys2Proof.Machine
end

