-- ==== Sys2Proof/Certificates/Slice0/Obligations.lean ====
section
/-! DEFINITION. The statements about the model: encoding and the step, the GPU, memory, reset and the invariants, the whole-machine rules,
then what each family of instructions does, leaves alone and takes. Their words are those of Safety. -/

open Sys2Proof Sys2Proof.Machine

/-! ### Encoding and the step -/

/-- Words written out from the spec's encodings decode to the instructions they stand for (30_encoding.md sections 1 to 7; the examples of
40_load8.md to 47_misc_control.md). -/
def Obligations.DecodesSpecWords : Prop :=
  decode [0x87] = .ok (.add_A_A, []) ∧
  decode [0x41] = .ok (.ld_B_C, []) ∧
  decode [0x76] = .ok (.halt, []) ∧
  decode [0x66, 0x00] = .ok (.ld_H_atHL, [0x00]) ∧
  decode [0x3E, 0x9F] = .ok (.ld_A_d8 0x9F, []) ∧
  decode [0x21, 0x34, 0x12] = .ok (.ld_HL_d16 0x1234, []) ∧
  decode [0x08, 0x00, 0xC1] = .ok (.ld_atA16_SP 0xC100, []) ∧
  decode [0xF8, 0x08] = .ok (.ld_HL_SPe8 0x08, []) ∧
  decode [0xF5] = .ok (.push_AF, []) ∧
  decode [0x39] = .ok (.add_HL_SP, []) ∧
  decode [0x20, 0xFC] = .ok (.jr_NZ_e8 0xFC, []) ∧
  decode [0xDC, 0x00, 0x20] = .ok (.call_C_a16 0x2000, []) ∧
  decode [0xEF] = .ok (.rst_28H, []) ∧
  decode [0xCB, 0x37] = .ok (.swap_A, []) ∧
  decode [0xCB, 0x7C] = .ok (.bit_7_H, []) ∧
  decode [0xCB, 0xDE] = .ok (.set_3_atHL, []) ∧
  decode [0xD3, 0x12] = .ok (.illegal_D3, [0x12])

/-- Decoding an encoded well-formed instruction gives it back, whatever bytes follow it. -/
def Obligations.DecodeEncodeRoundTrip : Prop :=
  ∀ (i : Instr) (rest : List Byte), i.wf = true → decode (encode i ++ rest) = .ok (i, rest)

/-- Each list of bytes has one meaning: what the decoder answers is well formed and its encoding is the bytes read; the decoder reads as
many bytes as the first one says, and refuses only a list with fewer. -/
def Obligations.EncodeDecodeRoundTrip : Prop :=
  (∀ (bytes : List Byte) (i : Instr) (rest : List Byte),
    decode bytes = .ok (i, rest) → i.wf = true ∧ encode i ++ rest = bytes) ∧
  (∀ (b0 : Byte) (more : List Byte),
    if instrLength b0 ≤ more.length + 1 then
      ∃ i, decode (b0 :: more) = .ok (i, (b0 :: more).drop (instrLength b0)) ∧ (encode i).length = instrLength b0
    else decode (b0 :: more) = .error (.truncated b0)) ∧
  instrLength 0xCB = 2

/-- When the bytes from PC on are the encoding of a well-formed instruction, the machine step is that instruction's execution at
that state, with PC still at its first byte, then the GPU's advance by four ticks per machine cycle; a stop is passed on and the GPU
does not advance. -/
def Obligations.StepRunsDecodedInstruction : Prop :=
  ∀ (s : State) (i : Instr), i.wf = true →
    (∀ k : Fin (encode i).length, byteAt s (s.cpu.pc + BitVec.ofNat 16 k.val) = some ((encode i).get k)) →
    step s =
      match exec i s with
      | .next t => .next { t with gpu := gpuExecute (4 * t.cycles) t.gpu }
      | .fault r => .fault r
      | .refused r => .refused r

/-- From every state the fetch reads the bytes of one well-formed instruction through the same read as data, in increasing address order,
wrapping; it changes nothing but the model's counter of free values. -/
def Obligations.FetchReadsInstruction : Prop :=
  ∀ s : State, ∃ i n,
    (fetchInstr s).1 = encode i ∧ i.wf = true ∧
    (encode i).headD 0 = byteRead s.draws s s.cpu.pc ∧
    (∀ (k : Nat) (v : Byte), k < (encode i).length →
      byteAt s (s.cpu.pc + BitVec.ofNat 16 k) = some v → (encode i).getD k 0 = v) ∧
    (fetchInstr s).2 = { s with draws := s.draws + n } ∧
    ((∀ k, k < (encode i).length → byteAt s (s.cpu.pc + BitVec.ofNat 16 k) ≠ none) → n = 0)

/-- A step faults exactly when the byte it fetches at PC is one of the eleven illegal opcodes; the fault names that opcode and PC. Every
other step goes on: nothing else faults, and nothing is refused. -/
def Obligations.StepFaultsExactlyOnIllegalOpcodes : Prop :=
  ∀ s : State,
    if byteRead s.draws s s.cpu.pc ∈ [0xD3, 0xDB, 0xDD, 0xE3, 0xE4, 0xEB, 0xEC, 0xED, 0xF4, 0xFC, 0xFD] then
      step s = .fault (.unimplementedOpcode ((byteRead s.draws s s.cpu.pc).setWidth 16) s.cpu.pc)
    else ∃ t, step s = .next t

/-- Each illegal opcode raises `UnimplementedOpcode` with that byte and PC, in every state, whatever follows it; a step that finds it at
PC ends in that fault, which carries no state: nothing has been written, no count is returned and the GPU has not advanced. -/
def Obligations.IllegalOpcodesFault : Prop :=
  ∀ (s : State) (i : Instr) (op : Byte),
    (i, op) ∈ [(.illegal_D3, (0xD3 : Byte)), (.illegal_DB, 0xDB), (.illegal_DD, 0xDD), (.illegal_E3, 0xE3), (.illegal_E4, 0xE4),
      (.illegal_EB, 0xEB), (.illegal_EC, 0xEC), (.illegal_ED, 0xED), (.illegal_F4, 0xF4), (.illegal_FC, 0xFC),
      (.illegal_FD, 0xFD)] →
    decode [op] = .ok (i, []) ∧ exec i s = .fault (.unimplementedOpcode (op.setWidth 16) s.cpu.pc) ∧
    (byteAt s s.cpu.pc = some op → step s = .fault (.unimplementedOpcode (op.setWidth 16) s.cpu.pc))

/-- The prefix byte selects the extended table by the byte after it, and the two bytes are one instruction: executing the row
`PREFIX CB` with that byte is executing the extended instruction, and every extended instruction completes, PC two bytes on, in two or four
machine cycles. The spec calls the prefix "not an instruction" (47_misc_control.md R215) and no bytes decode to it: that its row is a term, which
runs as the extended instruction, is the model's choice (log 8). -/
def Obligations.PrefixRunsExtendedInstruction : Prop :=
  ∀ (ext : Byte) (rest : List Byte) (s : State),
    decode (0xCB :: ext :: rest) = .ok (extendedInstr ext, rest) ∧ encode (extendedInstr ext) = [0xCB, ext] ∧
    ∃ t, exec (.prefix_CB ext) s = .next t ∧ exec (extendedInstr ext) s = .next t ∧
      t.cpu.pc = s.cpu.pc + 2 ∧ t.cycles = if ext.toNat % 8 = 6 then 4 else 2

/-! ### The GPU -/

/-- The mode state machine's table, and the document's two worked examples. One test is made, against the mode at entry, with `>=`,
and the excess is dropped (the spec's own reading, decision D14). LY is the model's byte, which wraps (log 14): where mode 1 ends at LY 255, which
no run reaches, LY is 0 and the mode stays 1, while the table on unbounded integers gives LY 0 and mode 2. -/
def Obligations.GpuExecuteTable : Prop :=
  (∀ (g : Gpu) (ticks : Nat), g.clock + ticks < modeTicks g.mode → gpuExecute ticks g = { g with clock := g.clock + ticks }) ∧
  (∀ (g : Gpu) (ticks : Nat), modeTicks g.mode ≤ g.clock + ticks →
    gpuExecute ticks g =
      match g.mode with
      | .oamScan => { g with clock := 0, mode := .vramScan }
      | .vramScan => renderScan { g with clock := 0, mode := .hblank }
      | .hblank => { g with clock := 0, ly := g.ly + 1, mode := if g.ly = 142 then .vblank else .oamScan }
      | .vblank =>
        if 153 ≤ g.ly.toNat ∧ g.ly.toNat < 255 then { g with clock := 0, ly := 0, mode := .oamScan }
        else { g with clock := 0, ly := g.ly + 1 }) ∧
  (modeTicks .oamScan = 80 ∧ modeTicks .vramScan = 172 ∧ modeTicks .hblank = 204 ∧ modeTicks .vblank = 456) ∧
  (∀ g : Gpu, g.mode = .oamScan → g.clock = 79 → (gpuExecute 2 g).clock = 0 ∧ (gpuExecute 2 g).mode = .vramScan) ∧
  (∀ g : Gpu, g.mode = .hblank → g.ly = 142 → g.clock = 200 →
    (gpuExecute 4 g).ly = 143 ∧ (gpuExecute 4 g).mode = .vblank)

/-- Every step keeps the GPU at a point of its line sequence: lines 0 to 142 in modes 2, 3 and 0, lines 143 to 153 in mode 1, the
mode clock below the mode's threshold. -/
def Obligations.StepKeepsGpuSequence : Prop :=
  ∀ s t : State, gpuOk s.gpu = true → step s = .next t → gpuOk t.gpu = true

/-- In a step the mode stays, and LY with it, or the mode clock goes to zero and the mode moves on in the order 2, 3, 0 on lines 0 to 142 and
1 on lines 143 to 153; LY changes only by 1 mod 154, when mode 0 or 1 ends. The framebuffer changes only when mode 3 ends. -/
def Obligations.ModesAndLinesInOrder : Prop :=
  ∀ s t : State, gpuOk s.gpu = true → step s = .next t →
    (t.gpu.clock = s.gpu.clock + 4 * t.cycles ∧ t.gpu.mode = s.gpu.mode ∧ t.gpu.ly = s.gpu.ly ∧ t.gpu.fb = s.gpu.fb) ∨
    (t.gpu.clock = 0 ∧ s.gpu.mode = .oamScan ∧ t.gpu.mode = .vramScan ∧ t.gpu.ly = s.gpu.ly ∧ t.gpu.fb = s.gpu.fb) ∨
    (t.gpu.clock = 0 ∧ s.gpu.mode = .vramScan ∧ t.gpu.mode = .hblank ∧ t.gpu.ly = s.gpu.ly) ∨
    (t.gpu.clock = 0 ∧ s.gpu.mode = .hblank ∧ t.gpu.mode = (if s.gpu.ly.toNat = 142 then .vblank else .oamScan) ∧
      t.gpu.ly.toNat = s.gpu.ly.toNat + 1 ∧ t.gpu.fb = s.gpu.fb) ∨
    (t.gpu.clock = 0 ∧ s.gpu.mode = .vblank ∧ t.gpu.mode = (if s.gpu.ly.toNat = 153 then .oamScan else .vblank) ∧
      t.gpu.ly.toNat = (s.gpu.ly.toNat + 1) % 154 ∧ t.gpu.fb = s.gpu.fb)

/-- `RenderScan()`: with the background disabled nothing changes; with it enabled only the framebuffer changes, and in it only the 160
pixels of scanline LY, each to the gray of its tile's colour number through the palette, opaque. The tile number is below 384. -/
def Obligations.RenderScanDrawsBackgroundLine : Prop :=
  ∀ g : Gpu, Memory.wf g.fb = true →
    (g.lcdc.getLsbD 0 = false → renderScan g = g) ∧
    (g.lcdc.getLsbD 0 = true →
      renderScan g = { g with fb := (renderScan g).fb } ∧
      (∀ k, k < g.ly.toNat * 640 ∨ g.ly.toNat * 640 + 640 ≤ k → memGet (renderScan g).fb k = memGet g.fb k) ∧
      ∀ px, px < 160 →
        ∃ idx tile lo hi cn shade : Nat,
          idx = (memGet g.vram ((if g.lcdc.getLsbD 3 then 0x1C00 else 0x1800) +
            (g.scy.toNat + g.ly.toNat) % 256 / 8 * 32 + (g.scx.toNat + px) % 256 / 8)).toNat ∧
          tile = (if g.lcdc.getLsbD 4 then idx else if idx < 128 then 256 + idx else idx) ∧ tile < 384 ∧
          lo = (memGet g.vram (tile * 16 + (g.scy.toNat + g.ly.toNat) % 256 % 8 * 2)).toNat ∧
          hi = (memGet g.vram (tile * 16 + (g.scy.toNat + g.ly.toNat) % 256 % 8 * 2 + 1)).toNat ∧
          cn = hi / 2 ^ (7 - (g.scx.toNat + px) % 8) % 2 * 2 + lo / 2 ^ (7 - (g.scx.toNat + px) % 8) % 2 ∧
          shade = g.bgp.toNat / 2 ^ (2 * cn) % 4 ∧
          (∀ k, k < 3 → memGet (renderScan g).fb ((g.ly.toNat * 160 + px) * 4 + k) = BitVec.ofNat 8 (255 - shade * 85)) ∧
          memGet (renderScan g).fb ((g.ly.toNat * 160 + px) * 4 + 3) = 0xFF)

/-- The window layer and the sprites show nothing: LCDC bits 7, 6, 5, 2 and 1, WY, WX, LYC, the object palettes, STAT's high bits
and OAM do not reach the framebuffer. -/
def Obligations.WindowAndSpritesDoNotShow : Prop :=
  ∀ (g : Gpu) (lcdc lyc obp0 obp1 wy wx : Byte) (statHigh : BitVec 6) (oam : Memory) (ticks : Nat),
    lcdc &&& 0x19 = g.lcdc &&& 0x19 →
    (gpuExecute ticks { g with lcdc, statHigh, lyc, obp0, obp1, wy, wx, oam }).fb = (gpuExecute ticks g).fb

/-! ### Memory -/

/-- `MemRead(a, 1)`: the address map of a read, and that a read changes nothing but the model's counter of free values. -/
def Obligations.ReadFollowsAddressMap : Prop :=
  ∀ (s : State) (addr : Word),
    (read8 addr s).2 = { s with draws := s.draws + drawn s addr } ∧
    (read8 addr s).1 = byteRead s.draws s addr ∧
    let a := addr.toNat
    byteAt s addr =
      if s.mmu.inBios = true ∧ a < 0x0100 then some (memGet s.mmu.boot a)
      else if a ≤ 0x7FFF then some (memGet s.mmu.rom a)
      else if a ≤ 0x9FFF then some (memGet s.gpu.vram (a - 0x8000))
      else if a ≤ 0xBFFF then some (memGet s.mmu.eram (a - 0xA000))
      else if a ≤ 0xDFFF then some (memGet s.mmu.wram (a - 0xC000))
      else if a ≤ 0xFDFF then some (memGet s.mmu.wram (a - 0xE000))
      else if a ≤ 0xFE9F then some (memGet s.gpu.oam (a - 0xFE00))
      else if 0xFF80 ≤ a then some (memGet s.mmu.zram (a - 0xFF80))
      else if a = 0xFF40 then some s.gpu.lcdc
      else if a = 0xFF41 then some (s.gpu.statHigh ++ modeBits s.gpu.mode)
      else if a = 0xFF42 then some s.gpu.scy
      else if a = 0xFF43 then some s.gpu.scx
      else if a = 0xFF44 then some s.gpu.ly
      else if a = 0xFF45 then some s.gpu.lyc
      else if a = 0xFF47 then some s.gpu.bgp
      else if a = 0xFF48 then some s.gpu.obp0
      else if a = 0xFF49 then some s.gpu.obp1
      else if a = 0xFF4A then some s.gpu.wy
      else if a = 0xFF4B then some s.gpu.wx
      else none

/-- `MemWrite(a, 1, v)`: the address map of a write; a write changes one byte of one array, or one GPU register, or nothing. -/
def Obligations.WriteFollowsAddressMap : Prop :=
  ∀ (s : State) (addr : Word) (v : Byte),
    let a := addr.toNat
    write8 addr v s =
      if a ≤ 0x7FFF then s
      else if a ≤ 0x9FFF then { s with gpu := { s.gpu with vram := memSet s.gpu.vram (a - 0x8000) v } }
      else if a ≤ 0xBFFF then { s with mmu := { s.mmu with eram := memSet s.mmu.eram (a - 0xA000) v } }
      else if a ≤ 0xDFFF then { s with mmu := { s.mmu with wram := memSet s.mmu.wram (a - 0xC000) v } }
      else if a ≤ 0xFDFF then { s with mmu := { s.mmu with wram := memSet s.mmu.wram (a - 0xE000) v } }
      else if a ≤ 0xFE9F then { s with gpu := { s.gpu with oam := memSet s.gpu.oam (a - 0xFE00) v } }
      else if 0xFF80 ≤ a then { s with mmu := { s.mmu with zram := memSet s.mmu.zram (a - 0xFF80) v } }
      else if a = 0xFF40 then { s with gpu := { s.gpu with lcdc := v } }
      else if a = 0xFF41 then { s with gpu := { s.gpu with statHigh := BitVec.ofNat 6 (v.toNat / 4) } }
      else if a = 0xFF42 then { s with gpu := { s.gpu with scy := v } }
      else if a = 0xFF43 then { s with gpu := { s.gpu with scx := v } }
      else if a = 0xFF45 then { s with gpu := { s.gpu with lyc := v } }
      else if a = 0xFF47 then { s with gpu := { s.gpu with bgp := v } }
      else if a = 0xFF48 then { s with gpu := { s.gpu with obp0 := v } }
      else if a = 0xFF49 then { s with gpu := { s.gpu with obp1 := v } }
      else if a = 0xFF4A then { s with gpu := { s.gpu with wy := v } }
      else if a = 0xFF4B then { s with gpu := { s.gpu with wx := v } }
      else s

/-- A read after a write: the written address returns the byte stored, where the map stores it; every address that does not name that
byte reads as before. What STAT, LY and the GPU's state show after it is 60_exceptions.md R250 to R252, with the spec's decisions D10, D11 and
D15. -/
def Obligations.ReadAfterWrite : Prop :=
  ∀ (s : State) (addr : Word) (v : Byte), arraysOk s = true → storesByte addr v s (write8 addr v s)

/-- The echo window and the RAM window are one array: an address from 0xC000 to 0xDDFF and the address 0x2000 above it read the same byte,
and a byte written through either is read through both. The bytes at 0xDE00 to 0xDFFF have no second address. -/
def Obligations.EchoAndRamAreOneArray : Prop :=
  (∀ (s : State) (addr : Word) (v : Byte), 0xC000 ≤ addr.toNat → addr.toNat ≤ 0xDDFF → arraysOk s = true →
    byteAt s (addr + 0x2000) = byteAt s addr ∧
    byteAt (write8 addr v s) addr = some v ∧ byteAt (write8 addr v s) (addr + 0x2000) = some v ∧
    byteAt (write8 (addr + 0x2000) v s) addr = some v ∧ byteAt (write8 (addr + 0x2000) v s) (addr + 0x2000) = some v) ∧
  (∀ (s : State) (addr : Word), 0xC000 ≤ addr.toNat → addr.toNat ≤ 0xFDFF →
    byteAt s addr = some (memGet s.mmu.wram (addr.toNat % 0x2000))) ∧
  (∀ (s : State) (addr other : Word) (v : Byte), 0xDE00 ≤ addr.toNat → addr.toNat ≤ 0xDFFF → arraysOk s = true →
    byteAt (write8 addr v s) addr = some v ∧ (other ≠ addr → byteAt (write8 addr v s) other = byteAt s other))

/-- The ROM, the boot ROM and the boot latch are constant during a run: a write below 0x8000 changes no state at all, and no step changes
any of the three. -/
def Obligations.StepKeepsReadOnlyState : Prop :=
  (∀ (s : State) (addr : Word) (v : Byte), addr.toNat ≤ 0x7FFF → write8 addr v s = s) ∧
  (∀ s t : State, step s = .next t → t.mmu.rom = s.mmu.rom ∧ t.mmu.boot = s.mmu.boot ∧ t.mmu.inBios = s.mmu.inBios)

/-- A word read is two byte reads, little-endian, each decoded on its own; the second address wraps (20_memory.md R43). That the low byte is
read first, and takes the first free value, is the model's reading of the spec's decision D19 (log 20); the counter is the model's (log 2). -/
def Obligations.WordReadsAreLittleEndian : Prop :=
  ∀ (s : State) (addr : Word),
    (read16 addr s).1 = wordRead s addr ∧
    (read16 addr s).1.toNat =
      (byteRead s.draws s addr).toNat + 256 * (byteRead (s.draws + drawn s addr) s (addr + 1)).toNat ∧
    (read16 addr s).2 = { s with draws := s.draws + wordDrawn s addr }

/-- A word write is two byte writes, the low byte first (the spec's decision D19), each decoded on its own; the second address
wraps (20_memory.md R44). What STAT, LY and the GPU's state show after it is 60_exceptions.md R250 to R252, with decisions D10, D11 and D15. -/
def Obligations.WordWritesAreLittleEndian : Prop :=
  ∀ (s : State) (addr v : Word),
    write16 addr v s = write8 (addr + 1) (BitVec.ofNat 8 (v.toNat / 256)) (write8 addr (BitVec.ofNat 8 v.toNat) s) ∧
    (arraysOk s = true → storesWord addr v s (write16 addr v s))

/-! ### Reset, the host's operations and the invariants -/

/-- The host's operations between steps. `load(bytes)`: the ROM holds the bytes from offset 0, truncated or zero-padded to its capacity;
nothing else changes. `reset()` gives every register its reset value and leaves every storage array alone; twice in a row is once. -/
def Obligations.HostLoadAndReset : Prop :=
  (∀ (s : State) (bytes : List Byte),
    (∀ k, k < 0x8000 → memGet (s.load bytes).mmu.rom k = bytes.getD k 0x00) ∧
    (∀ k, 0x8000 ≤ k → memGet (s.load bytes).mmu.rom k = 0x00) ∧
    s.load bytes = { s with mmu := { s.mmu with rom := (s.load bytes).mmu.rom } }) ∧
  (∀ s : State,
    s.hostReset.hostReset = s.hostReset ∧
    s.hostReset.cpu = State.reset.cpu ∧ s.hostReset.mmu = { s.mmu with inBios := State.reset.mmu.inBios } ∧
    s.hostReset.gpu = { State.reset.gpu with vram := s.gpu.vram, oam := s.gpu.oam, fb := s.gpu.fb })

/-- The reset values: registers, PC, SP, flags and IME zero; the GPU registers zero, mode 2, mode clock 0; every storage array but the
boot ROM all zero; the boot ROM holds its parameter, and the latch `inBIOS` its own. -/
def Obligations.ResetValues : Prop :=
  (∀ r, getReg r State.reset = 0x00) ∧ State.reset.cpu.f = 0x00 ∧ State.reset.cpu.pc = 0x0000 ∧ State.reset.cpu.sp = 0x0000 ∧
  State.reset.cpu.ime = false ∧ State.reset.mmu.inBios = Config.inBiosReset ∧
  (∀ k : BitVec 8, memGet State.reset.mmu.boot k.toNat = Config.bootRom k) ∧
  (∀ k, memGet State.reset.mmu.rom k = 0x00 ∧ memGet State.reset.mmu.eram k = 0x00 ∧ memGet State.reset.mmu.wram k = 0x00 ∧
    memGet State.reset.mmu.zram k = 0x00 ∧ memGet State.reset.gpu.vram k = 0x00 ∧ memGet State.reset.gpu.oam k = 0x00 ∧
    memGet State.reset.gpu.fb k = 0x00) ∧
  (∀ r, gpuRegRead r State.reset.gpu = if r = .stat then 0x02 else 0x00) ∧
  State.reset.gpu.mode = .oamScan ∧ State.reset.gpu.clock = 0

/-- The invariants hold after reset. -/
def Obligations.ResetMeetsInvariants : Prop :=
  flagsOk State.reset = true ∧ arraysOk State.reset = true ∧ gpuOk State.reset.gpu = true

/-- Every step keeps every storage array in its canonical form and inside its size. The framebuffer needs the line sequence: a
scanline outside it is drawn only where LY has left the visible lines. -/
def Obligations.StepKeepsArrays : Prop :=
  ∀ s t : State, arraysOk s = true → gpuOk s.gpu = true → step s = .next t → arraysOk t = true

/-- F's low nibble stays zero at every step. -/
def Obligations.StepKeepsFlagNibble : Prop :=
  ∀ s t : State, s.cpu.f &&& 0x0F = 0 → step s = .next t → t.cpu.f &&& 0x0F = 0

/-- The flag primitives: the four flags' bits, what each primitive computes, that setting a flag makes it test 1 and resetting it 0 with
the other flags left alone, and that a flag update is one `updateFlag` for each flag it names and nothing for another. -/
def Obligations.FlagPrimitives : Prop :=
  (flagMask .z = 0x80 ∧ flagMask .n = 0x40 ∧ flagMask .h = 0x20 ∧ flagMask .c = 0x10) ∧
  ∀ (g q : Flag) (f : Byte) (cond : Bool) (u : FlagUpdate),
    (testFlag g f = true ↔ f &&& flagMask g ≠ 0) ∧ setFlag g f = f ||| flagMask g ∧
    resetFlag g f = f &&& ~~~ flagMask g &&& 0xF0 ∧ updateFlag g cond f = (if cond then setFlag g f else resetFlag g f) ∧
    testFlag g (setFlag g f) = true ∧ testFlag g (resetFlag g f) = false ∧
    (q ≠ g → testFlag q (setFlag g f) = testFlag q f ∧ testFlag q (resetFlag g f) = testFlag q f) ∧
    testFlag q (writeFlags u f) =
      (match q with
        | .z => u.z
        | .n => u.n
        | .h => u.h
        | .c => u.c).getD (testFlag q f)

/-! ### Whole-machine rules -/

/-- An instruction takes 1 to 6 machine cycles, and the count depends on nothing but the instruction and the flags its condition reads:
not on other registers, addresses, memory or the GPU. -/
def Obligations.CyclesDependOnFlagsOnly : Prop :=
  ∀ (i : Instr) (s t s' t' : State), exec i s = .next t → exec i s' = .next t' →
    1 ≤ t.cycles ∧ t.cycles ≤ 6 ∧ (transferOpcodes.contains (firstByte i) = false ∨ s.cpu.f = s'.cpu.f → t.cycles = t'.cycles)

/-- PC advances by the instruction's length unless the instruction is a control transfer. -/
def Obligations.OnlyTransfersSetPC : Prop :=
  ∀ (i : Instr) (s t : State), exec i s = .next t → transferOpcodes.contains (firstByte i) = false →
    t.cpu.pc = s.cpu.pc + BitVec.ofNat 16 (encode i).length

/-- F changes only by the instructions that the summary of the flags lists. -/
def Obligations.OnlyFlagWritersChangeF : Prop :=
  ∀ (i : Instr) (s t : State), exec i s = .next t → writesFlags i = false → t.cpu.f = s.cpu.f

/-- IME changes only by DI, EI and RETI, and nothing reads it: two states that differ only in IME give next states that differ only in IME,
and the same fault. -/
def Obligations.NothingReadsIME : Prop :=
  (∀ (i : Instr) (s t : State), exec i s = .next t → i ≠ .di → i ≠ .ei → i ≠ .reti → t.cpu.ime = s.cpu.ime) ∧
  (∀ (v : Bool) (s t : State), step s = .next t → ∃ w, step (setIME v s) = .next (setIME w t)) ∧
  (∀ (v : Bool) (s : State) (r : Fault), step s = .fault r → step (setIME v s) = .fault r)

/-! ### 8-bit loads -/

/-- `LD r,r'` and `LD r,d8`. -/
def Obligations.LoadRegister : Prop :=
  (∀ (r r' : Reg8) (s : State),
    encode (ldForm r r') = [opcode (0x40 + 8 * regCode r + regCode r')] ∧
    ∃ t, exec (ldForm r r') s = .next t ∧ getReg r t = getReg r' s ∧ onlyRegs [r] s t ∧ goesOn 1 1 0 s t) ∧
  (∀ (r : Reg8) (d8 : Byte) (s : State),
    encode (ldImmForm (.reg r) d8) = [opcode (0x06 + 8 * regCode r), d8] ∧
    ∃ t, exec (ldImmForm (.reg r) d8) s = .next t ∧ getReg r t = d8 ∧ onlyRegs [r] s t ∧ goesOn 2 2 0 s t)

/-- `LD r,(HL)`: the address is formed before the register is written. -/
def Obligations.LoadRegisterFromMemory : Prop :=
  ∀ (r : Reg8) (s : State),
    encode (ldFromHLForm r) = [opcode (0x46 + 8 * regCode r)] ∧
    ∃ t, exec (ldFromHLForm r) s = .next t ∧ getReg r t = byteRead s.draws s (getPair .hl s) ∧ onlyRegs [r] s t ∧
      goesOn 1 2 (drawn s (getPair .hl s)) s t

/-- `LD (HL),r'` and `LD (HL),d8`. -/
def Obligations.StoreAtHL : Prop :=
  (∀ (r : Reg8) (s : State), arraysOk s = true →
    encode (ldToHLForm r) = [opcode (0x70 + regCode r)] ∧
    ∃ t, exec (ldToHLForm r) s = .next t ∧ onlyStores [] (getPair .hl s) (getReg r s) s t ∧ goesOn 1 2 0 s t) ∧
  (∀ (d8 : Byte) (s : State), arraysOk s = true →
    encode (ldImmForm .atHL d8) = [0x36, d8] ∧
    ∃ t, exec (ldImmForm .atHL d8) s = .next t ∧ onlyStores [] (getPair .hl s) d8 s t ∧ goesOn 2 3 0 s t)

/-- The loads of A through a pair, an absolute address and the high page. -/
def Obligations.LoadAccumulator : Prop :=
  ∀ (s : State) (a8 : Byte) (a16 : Word),
    (encode .ld_A_atBC = [0x0A] ∧ encode .ld_A_atDE = [0x1A] ∧ encode (.ld_A_atA16 a16) = [0xFA, lowByte a16, highByte a16] ∧
      encode .ldh_A_atC = [0xF2] ∧ encode (.ldh_A_atA8 a8) = [0xF0, a8]) ∧
    ∀ (i : Instr) (addr : Word) (len m : Nat),
      (i, addr, len, m) ∈ [(.ld_A_atBC, getPair .bc s, 1, 2), (.ld_A_atDE, getPair .de s, 1, 2), (.ld_A_atA16 a16, a16, 3, 4),
        (.ldh_A_atC, BitVec.ofNat 16 (0xFF00 + s.cpu.c.toNat), 1, 2), (.ldh_A_atA8 a8, BitVec.ofNat 16 (0xFF00 + a8.toNat), 2, 3)] →
      ∃ t, exec i s = .next t ∧ t.cpu.a = byteRead s.draws s addr ∧ onlyRegs [.a] s t ∧ goesOn len m (drawn s addr) s t

/-- The stores of A through a pair, an absolute address and the high page. -/
def Obligations.StoreAccumulator : Prop :=
  ∀ (s : State) (a8 : Byte) (a16 : Word), arraysOk s = true →
    (encode .ld_atBC_A = [0x02] ∧ encode .ld_atDE_A = [0x12] ∧ encode (.ld_atA16_A a16) = [0xEA, lowByte a16, highByte a16] ∧
      encode .ldh_atC_A = [0xE2] ∧ encode (.ldh_atA8_A a8) = [0xE0, a8]) ∧
    ∀ (i : Instr) (addr : Word) (len m : Nat),
      (i, addr, len, m) ∈ [(.ld_atBC_A, getPair .bc s, 1, 2), (.ld_atDE_A, getPair .de s, 1, 2), (.ld_atA16_A a16, a16, 3, 4),
        (.ldh_atC_A, BitVec.ofNat 16 (0xFF00 + s.cpu.c.toNat), 1, 2), (.ldh_atA8_A a8, BitVec.ofNat 16 (0xFF00 + a8.toNat), 2, 3)] →
      ∃ t, exec i s = .next t ∧ onlyStores [] addr s.cpu.a s t ∧ goesOn len m 0 s t

/-- `LD (HL+),A` and `LD (HL-),A`: the store uses the old HL, then HL moves by one, wrapping. -/
def Obligations.StoreAccumulatorAndStepHL : Prop :=
  ∀ (i : Instr) (op : Byte) (delta : Int) (s : State), arraysOk s = true →
    (i, op, delta) ∈ [(.ld_atHLinc_A, (0x22 : Byte), (1 : Int)), (.ld_atHLdec_A, 0x32, -1)] →
    encode i = [op] ∧
    ∃ t, exec i s = .next t ∧ getPair .hl t = BitVec.ofInt 16 ((getPair .hl s).toNat + delta) ∧
      onlyStores [.h, .l] (getPair .hl s) s.cpu.a s t ∧ goesOn 1 2 0 s t

/-- `LD A,(HL+)` and `LD A,(HL-)`: the read uses the old HL, then HL moves by one, wrapping. -/
def Obligations.LoadAccumulatorAndStepHL : Prop :=
  ∀ (i : Instr) (op : Byte) (delta : Int) (s : State),
    (i, op, delta) ∈ [(.ld_A_atHLinc, (0x2A : Byte), (1 : Int)), (.ld_A_atHLdec, 0x3A, -1)] →
    encode i = [op] ∧
    ∃ t, exec i s = .next t ∧ t.cpu.a = byteRead s.draws s (getPair .hl s) ∧
      getPair .hl t = BitVec.ofInt 16 ((getPair .hl s).toNat + delta) ∧
      onlyRegs [.a, .h, .l] s t ∧ goesOn 1 2 (drawn s (getPair .hl s)) s t

/-! ### 16-bit loads and the stack -/

/-- `LD rr,d16` and `LD SP,HL`. -/
def Obligations.LoadPair : Prop :=
  (∀ (p : Pair) (d16 : Word) (s : State),
    encode (ldPairForm p d16) = [opcode (0x01 + 16 * pairCode p), lowByte d16, highByte d16] ∧
    ∃ t, exec (ldPairForm p d16) s = .next t ∧ onlyPair p d16 s.cpu.f s t ∧ goesOn 3 3 0 s t) ∧
  (∀ s : State, encode .ld_SP_HL = [0xF9] ∧
    ∃ t, exec .ld_SP_HL s = .next t ∧ onlyPair .sp (wordOf s.cpu.h s.cpu.l) s.cpu.f s t ∧ goesOn 1 2 0 s t)

/-- `LD (a16),SP`: SP's low byte to `a16`, its high byte to the address after it, which wraps. -/
def Obligations.StoreSP : Prop :=
  ∀ (a16 : Word) (s : State), arraysOk s = true →
    encode (.ld_atA16_SP a16) = [0x08, lowByte a16, highByte a16] ∧
    ∃ t, exec (.ld_atA16_SP a16) s = .next t ∧ keepsRegs [] s t ∧ t.cpu.f = s.cpu.f ∧ t.cpu.sp = s.cpu.sp ∧
      t.cpu.ime = s.cpu.ime ∧ storesWord a16 s.cpu.sp s t ∧ goesOn 3 5 0 s t

/-- `ADD SP,e8` and `LD HL,SP+e8`: the sum is signed, the flags are those of the unsigned addition of the low bytes (the spec's
decision D6). -/
def Obligations.AddSignedByteToSP : Prop :=
  ∀ (e8 : Byte) (s : State), flagsOk s = true →
    (encode (.add_SP_e8 e8) = [0xE8, e8] ∧ encode (.ld_HL_SPe8 e8) = [0xF8, e8]) ∧
    (∃ t, exec (.add_SP_e8 e8) s = .next t ∧ onlyPair .sp (specSPSum s.cpu.sp e8) (specSPFlags s.cpu.sp e8) s t ∧
      goesOn 2 4 0 s t) ∧
    (∃ t, exec (.ld_HL_SPe8 e8) s = .next t ∧ onlyPair .hl (specSPSum s.cpu.sp e8) (specSPFlags s.cpu.sp e8) s t ∧
      goesOn 2 3 0 s t)

/-- `PUSH rr`: the pair's value before is stored at SP minus two. -/
def Obligations.PushPair : Prop :=
  ∀ (p : StackPair) (s : State), arraysOk s = true →
    encode (pushForm p) = [opcode (0xC5 + 16 * stackPairCode p)] ∧
    ∃ t, exec (pushForm p) s = .next t ∧
      onlyPushes (match p with
        | .bc => wordOf s.cpu.b s.cpu.c
        | .de => wordOf s.cpu.d s.cpu.e
        | .hl => wordOf s.cpu.h s.cpu.l
        | .af => wordOf s.cpu.a s.cpu.f) s t ∧ goesOn 1 4 0 s t

/-- `POP rr`: the pair gets the word at SP and SP is two higher; for AF, F gets the low byte without its bits 3..0. -/
def Obligations.PopPair : Prop :=
  ∀ (p : StackPair) (s : State),
    encode (popForm p) = [opcode (0xC1 + 16 * stackPairCode p)] ∧
    ∃ t, exec (popForm p) s = .next t ∧ t.cpu.sp = s.cpu.sp + 2 ∧ t.cpu.ime = s.cpu.ime ∧ keepsMemory s t ∧
      goesOn 1 3 (wordDrawn s s.cpu.sp) s t ∧
      match p with
      | .bc => wordOf t.cpu.b t.cpu.c = wordRead s s.cpu.sp ∧ keepsRegs [.b, .c] s t ∧ t.cpu.f = s.cpu.f
      | .de => wordOf t.cpu.d t.cpu.e = wordRead s s.cpu.sp ∧ keepsRegs [.d, .e] s t ∧ t.cpu.f = s.cpu.f
      | .hl => wordOf t.cpu.h t.cpu.l = wordRead s s.cpu.sp ∧ keepsRegs [.h, .l] s t ∧ t.cpu.f = s.cpu.f
      | .af => t.cpu.a = highByte (wordRead s s.cpu.sp) ∧ t.cpu.f = lowByte (wordRead s s.cpu.sp) &&& 0xF0 ∧ keepsRegs [.a] s t

/-! ### 8-bit arithmetic and logic -/

/-- `ADD A,v` and `ADC A,v` in their three forms; ADC adds the C flag before. -/
def Obligations.AddToAccumulator : Prop :=
  ∀ (op : AluOp) (code k : Nat) (s : State), flagsOk s = true →
    (op, code, k) ∈ [(.add, 0, 0), (.adc, 1, flagNat .c s)] →
    (∀ o, encode (aluForm op o) = [opcode (0x80 + 8 * code + operandCode o)] ∧
      ∃ t, exec (aluForm op o) s = .next t ∧ t.cpu.a = (specAdd s.cpu.a (operandByte o s) k).1 ∧
        onlyRegsAndFlags [.a] (specAdd s.cpu.a (operandByte o s) k).2 s t ∧
        goesOn 1 (if o = .atHL then 2 else 1) (operandDrawn o s) s t) ∧
    (∀ d8, encode (aluImmForm op d8) = [opcode (0xC6 + 8 * code), d8] ∧
      ∃ t, exec (aluImmForm op d8) s = .next t ∧ t.cpu.a = (specAdd s.cpu.a d8 k).1 ∧
        onlyRegsAndFlags [.a] (specAdd s.cpu.a d8 k).2 s t ∧ goesOn 2 2 0 s t)

/-- `SUB A,v`, `SBC A,v` and `CP A,v` in their three forms; SBC subtracts the C flag before, CP writes no register. -/
def Obligations.SubtractFromAccumulator : Prop :=
  ∀ (op : AluOp) (code k : Nat) (s : State), flagsOk s = true →
    (op, code, k) ∈ [(.sub, 2, 0), (.sbc, 3, flagNat .c s), (.cp, 7, 0)] →
    (∀ o, encode (aluForm op o) = [opcode (0x80 + 8 * code + operandCode o)] ∧
      ∃ t, exec (aluForm op o) s = .next t ∧
        t.cpu.a = (if op = .cp then s.cpu.a else (specSub s.cpu.a (operandByte o s) k).1) ∧
        onlyRegsAndFlags [.a] (specSub s.cpu.a (operandByte o s) k).2 s t ∧
        goesOn 1 (if o = .atHL then 2 else 1) (operandDrawn o s) s t) ∧
    (∀ d8, encode (aluImmForm op d8) = [opcode (0xC6 + 8 * code), d8] ∧
      ∃ t, exec (aluImmForm op d8) s = .next t ∧ t.cpu.a = (if op = .cp then s.cpu.a else (specSub s.cpu.a d8 k).1) ∧
        onlyRegsAndFlags [.a] (specSub s.cpu.a d8 k).2 s t ∧ goesOn 2 2 0 s t)

/-- `AND A,v`, `XOR A,v` and `OR A,v` in their three forms; H is 1 after AND only. -/
def Obligations.LogicOnAccumulator : Prop :=
  ∀ (op : AluOp) (code : Nat) (f : Byte → Byte → Byte) (s : State), flagsOk s = true →
    (op = .and ∧ code = 4 ∧ f = (· &&& ·)) ∨ (op = .xor ∧ code = 5 ∧ f = (· ^^^ ·)) ∨ (op = .or ∧ code = 6 ∧ f = (· ||| ·)) →
    (∀ o, encode (aluForm op o) = [opcode (0x80 + 8 * code + operandCode o)] ∧
      ∃ t, exec (aluForm op o) s = .next t ∧ t.cpu.a = f s.cpu.a (operandByte o s) ∧
        onlyRegsAndFlags [.a] (specLogic (f s.cpu.a (operandByte o s)) (op = .and)).2 s t ∧
        goesOn 1 (if o = .atHL then 2 else 1) (operandDrawn o s) s t) ∧
    (∀ d8, encode (aluImmForm op d8) = [opcode (0xC6 + 8 * code), d8] ∧
      ∃ t, exec (aluImmForm op d8) s = .next t ∧ t.cpu.a = f s.cpu.a d8 ∧
        onlyRegsAndFlags [.a] (specLogic (f s.cpu.a d8) (op = .and)).2 s t ∧ goesOn 2 2 0 s t)

/-- `INC` and `DEC` of a register or of the byte at HL: C is not changed. -/
def Obligations.IncrementAndDecrementByte : Prop :=
  ∀ (o : Operand8) (s : State), flagsOk s = true → arraysOk s = true →
    (encode (incForm o) = [opcode (0x04 + 8 * operandCode o)] ∧
      ∃ t, exec (incForm o) s = .next t ∧
        onlyOperand o (specInc (operandByte o s) (flagOf .c s)).1 (specInc (operandByte o s) (flagOf .c s)).2 s t ∧
        goesOn 1 (if o = .atHL then 3 else 1) (operandDrawn o s) s t) ∧
    (encode (decForm o) = [opcode (0x05 + 8 * operandCode o)] ∧
      ∃ t, exec (decForm o) s = .next t ∧
        onlyOperand o (specDec (operandByte o s) (flagOf .c s)).1 (specDec (operandByte o s) (flagOf .c s)).2 s t ∧
        goesOn 1 (if o = .atHL then 3 else 1) (operandDrawn o s) s t)

/-- `DAA` by the spec's composition (its decision D24): both tests read A and the flags before. -/
def Obligations.DecimalAdjust : Prop :=
  ∀ s : State, flagsOk s = true →
    encode .daa = [0x27] ∧
    ∃ t low high, exec .daa s = .next t ∧
      (low = true ↔ flagOf .h s = true ∨ (flagOf .n s = false ∧ 9 < s.cpu.a.toNat % 16)) ∧
      (high = true ↔ flagOf .c s = true ∨ (flagOf .n s = false ∧ 0x99 < s.cpu.a.toNat)) ∧
      (t.cpu.a.toNat : Int) =
        ((s.cpu.a.toNat : Int) +
          (if flagOf .n s then -1 else 1) * ((if low then 0x06 else 0) + (if high then 0x60 else 0))) % 256 ∧
      onlyRegsAndFlags [.a] (packFlags (decide (t.cpu.a = 0)) (flagOf .n s) false high) s t ∧ goesOn 1 1 0 s t

/-- What DAA is for: after an addition of packed BCD bytes, with or without carry, it leaves the packed BCD sum and the decimal carry, and
after a subtraction the packed BCD difference and the decimal borrow (the correction table of DAA, the spec's decision D24). -/
def Obligations.DecimalAdjustMakesBcd : Prop :=
  ∀ (x y : Nat) (s : State), x < 100 → y < 100 → s.cpu.a = bcd x →
    (∃ t u, exec (.adc_A_d8 (bcd y)) s = .next t ∧ exec .daa t = .next u ∧
      u.cpu.a = bcd ((x + y + flagNat .c s) % 100) ∧ flagOf .c u = decide (100 ≤ x + y + flagNat .c s)) ∧
    (∃ t u, exec (.sbc_A_d8 (bcd y)) s = .next t ∧ exec .daa t = .next u ∧
      u.cpu.a = bcd ((100 + x - y - flagNat .c s) % 100) ∧ flagOf .c u = decide (x < y + flagNat .c s))

/-- `CPL`, `SCF` and `CCF`: the flags each leaves alone keep their values. -/
def Obligations.ComplementAndCarryFlags : Prop :=
  ∀ s : State, flagsOk s = true →
    (encode .cpl = [0x2F] ∧
      ∃ t, exec .cpl s = .next t ∧ t.cpu.a.toNat = 255 - s.cpu.a.toNat ∧
        onlyRegsAndFlags [.a] (packFlags (flagOf .z s) true true (flagOf .c s)) s t ∧ goesOn 1 1 0 s t) ∧
    (encode .scf = [0x37] ∧
      ∃ t, exec .scf s = .next t ∧ onlyRegsAndFlags [] (packFlags (flagOf .z s) false false true) s t ∧ goesOn 1 1 0 s t) ∧
    (encode .ccf = [0x3F] ∧
      ∃ t, exec .ccf s = .next t ∧ onlyRegsAndFlags [] (packFlags (flagOf .z s) false false (!flagOf .c s)) s t ∧
        goesOn 1 1 0 s t)

/-! ### 16-bit arithmetic -/

/-- `ADD HL,rr`: H out of bit 11, C out of bit 15, Z unchanged; the pair is read before HL is written. -/
def Obligations.AddPairToHL : Prop :=
  ∀ (p : Pair) (s : State), flagsOk s = true →
    encode (addHLForm p) = [opcode (0x09 + 16 * pairCode p)] ∧
    ∃ t, exec (addHLForm p) s = .next t ∧
      onlyPair .hl (BitVec.ofNat 16 ((getPair .hl s).toNat + (getPair p s).toNat))
        (packFlags (flagOf .z s) false (decide (0x0FFF < (getPair .hl s).toNat % 0x1000 + (getPair p s).toNat % 0x1000))
          (decide (0xFFFF < (getPair .hl s).toNat + (getPair p s).toNat))) s t ∧ goesOn 1 2 0 s t

/-- `INC rr` and `DEC rr`: no flag, wrapping. -/
def Obligations.IncrementAndDecrementPair : Prop :=
  ∀ (p : Pair) (s : State),
    (encode (incPairForm p) = [opcode (0x03 + 16 * pairCode p)] ∧
      ∃ t, exec (incPairForm p) s = .next t ∧ onlyPair p (BitVec.ofNat 16 ((getPair p s).toNat + 1)) s.cpu.f s t ∧
        goesOn 1 2 0 s t) ∧
    (encode (decPairForm p) = [opcode (0x0B + 16 * pairCode p)] ∧
      ∃ t, exec (decPairForm p) s = .next t ∧ onlyPair p (BitVec.ofNat 16 ((getPair p s).toNat + 0xFFFF)) s.cpu.f s t ∧
        goesOn 1 2 0 s t)

/-! ### Rotates, shifts, bits -/

/-- `RLCA`, `RRCA`, `RLA` and `RRA`: the rotates of A, which always clear Z. -/
def Obligations.RotateAccumulator : Prop :=
  ∀ (i : Instr) (op : RotOp) (code : Byte) (s : State), flagsOk s = true →
    (i, op, code) ∈ [(.rlca, .rlc, (0x07 : Byte)), (.rrca, .rrc, 0x0F), (.rla, .rl, 0x17), (.rra, .rr, 0x1F)] →
    encode i = [code] ∧
    ∃ t, exec i s = .next t ∧ t.cpu.a.toNat = (specRotate op s.cpu.a (flagNat .c s)).1 ∧
      onlyRegsAndFlags [.a] (packFlags false false false (specRotate op s.cpu.a (flagNat .c s)).2) s t ∧ goesOn 1 1 0 s t

/-- The extended rotates, shifts and SWAP on a register or the byte at HL. -/
def Obligations.RotateAndShift : Prop :=
  ∀ (op : RotOp) (o : Operand8) (s : State), flagsOk s = true → arraysOk s = true →
    encode (rotForm op o) = [0xCB, opcode (8 * rotCode op + operandCode o)] ∧
    ∃ t, exec (rotForm op o) s = .next t ∧
      onlyOperand o (BitVec.ofNat 8 (specRotate op (operandByte o s) (flagNat .c s)).1)
        (packFlags (decide ((specRotate op (operandByte o s) (flagNat .c s)).1 = 0)) false false
          (specRotate op (operandByte o s) (flagNat .c s)).2) s t ∧
      goesOn 2 (if o = .atHL then 4 else 2) (operandDrawn o s) s t

/-- `BIT b,x`: Z is the complement of the tested bit, N=0, H=1, C unchanged; nothing else is written. -/
def Obligations.TestBit : Prop :=
  ∀ (b : Fin 8) (o : Operand8) (s : State), flagsOk s = true →
    encode (bitForm b o) = [0xCB, opcode (0x40 + 8 * b.val + operandCode o)] ∧
    ∃ t, exec (bitForm b o) s = .next t ∧
      onlyRegsAndFlags [] (packFlags (!(operandByte o s).getLsbD b.val) false true (flagOf .c s)) s t ∧
      goesOn 2 (if o = .atHL then 4 else 2) (operandDrawn o s) s t

/-- `RES b,x` and `SET b,x`: one bit of the operand, no flag. -/
def Obligations.ResetAndSetBit : Prop :=
  ∀ (b : Fin 8) (o : Operand8) (s : State), arraysOk s = true →
    (encode (resForm b o) = [0xCB, opcode (0x80 + 8 * b.val + operandCode o)] ∧
      ∃ t v, exec (resForm b o) s = .next t ∧
        (∀ k : Fin 8, v.getLsbD k.val = ((operandByte o s).getLsbD k.val && decide (k ≠ b))) ∧ onlyOperand o v s.cpu.f s t ∧
        goesOn 2 (if o = .atHL then 4 else 2) (operandDrawn o s) s t) ∧
    (encode (setForm b o) = [0xCB, opcode (0xC0 + 8 * b.val + operandCode o)] ∧
      ∃ t v, exec (setForm b o) s = .next t ∧
        (∀ k : Fin 8, v.getLsbD k.val = ((operandByte o s).getLsbD k.val || decide (k = b))) ∧ onlyOperand o v s.cpu.f s t ∧
        goesOn 2 (if o = .atHL then 4 else 2) (operandDrawn o s) s t)

/-! ### Control transfer -/

/-- `JP a16`, `JP cc,a16` and `JP HL`. -/
def Obligations.AbsoluteJumps : Prop :=
  (∀ (a16 : Word) (s : State), encode (.jp_a16 a16) = [0xC3, lowByte a16, highByte a16] ∧
    ∃ t, exec (.jp_a16 a16) s = .next t ∧ onlyRegs [] s t ∧ endsAt a16 4 0 s t) ∧
  (∀ (cc : Cond) (a16 : Word) (s : State),
    encode (jpCondForm cc a16) = [opcode (0xC2 + 8 * condCode cc), lowByte a16, highByte a16] ∧
    ∃ t, exec (jpCondForm cc a16) s = .next t ∧ onlyRegs [] s t ∧
      if specCond cc s.cpu.f then endsAt a16 4 0 s t else goesOn 3 3 0 s t) ∧
  (∀ s : State, encode .jp_HL = [0xE9] ∧
    ∃ t, exec .jp_HL s = .next t ∧ onlyRegs [] s t ∧ endsAt (wordOf s.cpu.h s.cpu.l) 1 0 s t)

/-- `JR e8` and `JR cc,e8`: relative to the address after the instruction, wrapping. -/
def Obligations.RelativeJumps : Prop :=
  (∀ (e8 : Byte) (s : State), encode (.jr_e8 e8) = [0x18, e8] ∧
    ∃ t, exec (.jr_e8 e8) s = .next t ∧ onlyRegs [] s t ∧ endsAt (specRelative s.cpu.pc e8) 3 0 s t) ∧
  (∀ (cc : Cond) (e8 : Byte) (s : State), encode (jrCondForm cc e8) = [opcode (0x20 + 8 * condCode cc), e8] ∧
    ∃ t, exec (jrCondForm cc e8) s = .next t ∧ onlyRegs [] s t ∧
      if specCond cc s.cpu.f then endsAt (specRelative s.cpu.pc e8) 3 0 s t else goesOn 2 2 0 s t)

/-- `CALL a16`, `CALL cc,a16` and `RST t`: the address after the instruction is pushed, then control goes to the target; a call not taken
leaves SP and memory alone. -/
def Obligations.CallsAndRestarts : Prop :=
  (∀ (a16 : Word) (s : State), arraysOk s = true → encode (.call_a16 a16) = [0xCD, lowByte a16, highByte a16] ∧
    ∃ t, exec (.call_a16 a16) s = .next t ∧ onlyPushes (s.cpu.pc + 3) s t ∧ endsAt a16 6 0 s t) ∧
  (∀ (cc : Cond) (a16 : Word) (s : State), arraysOk s = true →
    encode (callCondForm cc a16) = [opcode (0xC4 + 8 * condCode cc), lowByte a16, highByte a16] ∧
    ∃ t, exec (callCondForm cc a16) s = .next t ∧
      if specCond cc s.cpu.f then onlyPushes (s.cpu.pc + 3) s t ∧ endsAt a16 6 0 s t
      else onlyRegs [] s t ∧ goesOn 3 3 0 s t) ∧
  (∀ (n : Fin 8) (s : State), arraysOk s = true → encode (rstForm n) = [opcode (0xC7 + 8 * n.val)] ∧
    ∃ t, exec (rstForm n) s = .next t ∧ onlyPushes (s.cpu.pc + 1) s t ∧ endsAt (BitVec.ofNat 16 (8 * n.val)) 4 0 s t)

/-- `RET`, `RET cc` and `RETI`: PC gets the word at SP and SP is two higher; RETI also sets IME; a return not taken leaves SP
alone. -/
def Obligations.Returns : Prop :=
  (∀ (i : Instr) (op : Byte) (s : State), (i, op) ∈ [(.ret, (0xC9 : Byte)), (.reti, 0xD9)] → encode i = [op] ∧
    ∃ t, exec i s = .next t ∧ t.cpu.sp = s.cpu.sp + 2 ∧ t.cpu.ime = (if i = .reti then true else s.cpu.ime) ∧
      keepsRegs [] s t ∧ t.cpu.f = s.cpu.f ∧ keepsMemory s t ∧ endsAt (wordRead s s.cpu.sp) 4 (wordDrawn s s.cpu.sp) s t) ∧
  (∀ (cc : Cond) (s : State), encode (retCondForm cc) = [opcode (0xC0 + 8 * condCode cc)] ∧
    ∃ t, exec (retCondForm cc) s = .next t ∧ t.cpu.ime = s.cpu.ime ∧ keepsRegs [] s t ∧ t.cpu.f = s.cpu.f ∧ keepsMemory s t ∧
      if specCond cc s.cpu.f then
        t.cpu.sp = s.cpu.sp + 2 ∧ endsAt (wordRead s s.cpu.sp) 5 (wordDrawn s s.cpu.sp) s t
      else t.cpu.sp = s.cpu.sp ∧ goesOn 1 2 0 s t)

/-! ### Miscellaneous -/

/-- `NOP`, `STOP` and `HALT` do nothing but take one cycle and one byte (STOP's length is the spec's decision D7); `DI` clears IME and
`EI` sets it, at once (the spec's decision D8), and nothing else changes. -/
def Obligations.NoOperationsAndInterruptEnable : Prop :=
  (∀ (i : Instr) (op : Byte) (s : State), (i, op) ∈ [(.nop, (0x00 : Byte)), (.stop, 0x10), (.halt, 0x76)] →
    encode i = [op] ∧ ∃ t, exec i s = .next t ∧ onlyRegs [] s t ∧ goesOn 1 1 0 s t) ∧
  (∀ (i : Instr) (op : Byte) (v : Bool) (s : State), (i, op, v) ∈ [(.di, (0xF3 : Byte), false), (.ei, 0xFB, true)] →
    encode i = [op] ∧ ∃ t, exec i s = .next t ∧ t.cpu.ime = v ∧ keepsRegs [] s t ∧ t.cpu.f = s.cpu.f ∧ t.cpu.sp = s.cpu.sp ∧
      keepsMemory s t ∧ goesOn 1 1 0 s t)
end

