-- ==== Sys2Proof/Laws/Memory.lean ====
section
/-! SUPPORT. Laws of a storage array: read after write, the frame of a write, and that every operation keeps the canonical form. -/

namespace Sys2Proof.Machine

@[simp] theorem memGet_nil (k : Nat) : memGet [] k = unlistedByte := rfl

/-- A write leaves every other cell alone, in any list. -/
theorem memGet_memSet_ne (m : Memory) {k j : Nat} (v : Byte) (h : j ≠ k) : memGet (memSet m k v) j = memGet m j := by
  induction m with
  | nil => simp only [memSet]; split <;> simp [memGet, h.symm]
  | cons cell m ih =>
    obtain ⟨i, u⟩ := cell
    simp only [memSet]
    split
    · split <;> simp [memGet, h.symm]
    · split
      · subst_vars; split <;> simp [memGet, h.symm]
      · simp only [memGet, ih]

theorem Memory.wf_cons {k : Nat} {v : Byte} {m : Memory} :
    Memory.wf ((k, v) :: m) = true ↔ v ≠ unlistedByte ∧ (∀ cell ∈ m, k < cell.1) ∧ Memory.wf m = true := by
  simp [Memory.wf, and_assoc]

/-- A cell below every listed offset reads as unlisted. -/
theorem memGet_below (m : Memory) {k : Nat} (h : ∀ cell ∈ m, k < cell.1) : memGet m k = unlistedByte := by
  induction m with
  | nil => rfl
  | cons cell m ih =>
    obtain ⟨i, u⟩ := cell
    have hi : k < i := h (i, u) (by simp)
    simp only [memGet, if_neg (Nat.ne_of_gt hi)]
    exact ih fun c hc => h c (by simp [hc])

/-- Read after write, in canonical form. -/
theorem memGet_memSet_self (m : Memory) (k : Nat) (v : Byte) (h : Memory.wf m = true) : memGet (memSet m k v) k = v := by
  induction m with
  | nil => simp only [memSet]; split <;> simp_all [memGet]
  | cons cell m ih =>
    obtain ⟨i, u⟩ := cell
    obtain ⟨-, hlt, hm⟩ := Memory.wf_cons.1 h
    simp only [memSet]
    split
    · rename_i hki
      split
      · rename_i hv
        rw [hv]
        exact memGet_below _ fun c hc => by
          rcases List.mem_cons.1 hc with rfl | hc
          · exact hki
          · exact lt_trans hki (hlt c hc)
      · simp [memGet]
    · split
      · rename_i hki
        subst hki
        split
        · rename_i hv
          rw [hv]; exact memGet_below _ hlt
        · simp [memGet]
      · rename_i hne
        simp only [memGet, if_neg (Ne.symm hne)]
        exact ih hm

/-- Every offset a write lists is the written one or was listed. -/
theorem mem_memSet (m : Memory) (k : Nat) (v : Byte) {cell : Host.Cell} (h : cell ∈ memSet m k v) :
    cell.1 = k ∨ cell ∈ m := by
  induction m with
  | nil => simp only [memSet] at h; split at h <;> simp_all
  | cons c m ih =>
    obtain ⟨i, u⟩ := c
    simp only [memSet] at h
    split at h
    · split at h
      · exact .inr h
      · exact (List.mem_cons.1 h).imp (fun hc => by rw [hc]) id
    · split at h
      · split at h
        · exact .inr (List.mem_cons_of_mem _ h)
        · exact (List.mem_cons.1 h).imp (fun hc => by rw [hc]) (List.mem_cons_of_mem _)
      · rcases List.mem_cons.1 h with rfl | h
        · exact .inr (by simp)
        · exact (ih h).imp id fun hm => by simp [hm]

/-- A write keeps the canonical form. -/
theorem memSet_wf (m : Memory) (k : Nat) (v : Byte) (h : Memory.wf m = true) : Memory.wf (memSet m k v) = true := by
  induction m with
  | nil => simp only [memSet]; split <;> simp_all [Memory.wf]
  | cons cell m ih =>
    obtain ⟨i, u⟩ := cell
    obtain ⟨hu, hlt, hm⟩ := Memory.wf_cons.1 h
    simp only [memSet]
    split
    · rename_i hki
      split
      · exact h
      · rename_i hv
        refine Memory.wf_cons.2 ⟨hv, fun c hc => ?_, h⟩
        rcases List.mem_cons.1 hc with rfl | hc
        · exact hki
        · exact lt_trans hki (hlt c hc)
    · rename_i hnk
      split
      · rename_i hki
        subst hki
        split
        · exact hm
        · rename_i hv
          exact Memory.wf_cons.2 ⟨hv, hlt, hm⟩
      · rename_i hne
        refine Memory.wf_cons.2 ⟨hu, fun c hc => ?_, ih hm⟩
        rcases mem_memSet m k v hc with hk | hc
        · omega
        · exact hlt c hc

/-- A write inside the array keeps every listed offset inside it. -/
theorem memSet_inBounds {size : Nat} (m : Memory) {k : Nat} (v : Byte) (hk : k < size)
    (h : Memory.inBounds size m = true) : Memory.inBounds size (memSet m k v) = true := by
  simp only [Memory.inBounds, List.all_eq_true, decide_eq_true_eq] at *
  intro c hc
  rcases mem_memSet m k v hc with hk' | hc
  · omega
  · exact h c hc

theorem mem_memOfBytes (k : Nat) (vs : List Byte) {cell : Host.Cell} (h : cell ∈ memOfBytes k vs) :
    k ≤ cell.1 ∧ cell.1 < k + vs.length := by
  induction vs generalizing k with
  | nil => simp [memOfBytes] at h
  | cons v vs ih =>
    have step : cell ∈ memOfBytes (k + 1) vs → k ≤ cell.1 ∧ cell.1 < k + (v :: vs).length := fun h => by
      have := ih (k + 1) h
      simp only [List.length_cons]; omega
    simp only [memOfBytes] at h
    split at h
    · exact step h
    · rcases List.mem_cons.1 h with rfl | h
      · simp
      · exact step h

/-- A list of bytes gives a canonical array. -/
theorem memOfBytes_wf (k : Nat) (vs : List Byte) : Memory.wf (memOfBytes k vs) = true := by
  induction vs generalizing k with
  | nil => rfl
  | cons v vs ih =>
    simp only [memOfBytes]
    split
    · exact ih _
    · rename_i hv
      exact Memory.wf_cons.2 ⟨hv, fun c hc => by have := mem_memOfBytes _ _ hc; omega, ih _⟩

theorem memOfBytes_inBounds {size : Nat} (vs : List Byte) (h : vs.length ≤ size) :
    Memory.inBounds size (memOfBytes 0 vs) = true := by
  simp only [Memory.inBounds, List.all_eq_true, decide_eq_true_eq]
  intro c hc
  have := mem_memOfBytes _ _ hc
  omega

/-- The array of a list of bytes reads as the list, and as unlisted after it. -/
theorem memGet_memOfBytes (k : Nat) (vs : List Byte) (j : Nat) :
    memGet (memOfBytes k vs) (k + j) = vs.getD j unlistedByte := by
  induction vs generalizing k j with
  | nil => rfl
  | cons v vs ih =>
    cases j with
    | zero =>
      simp only [memOfBytes]
      split
      · rename_i hv
        simpa [hv] using memGet_below _ fun c hc => by have := mem_memOfBytes _ _ hc; omega
      · simp [memGet]
    | succ j =>
      have hj : k + (j + 1) = k + 1 + j := by omega
      simp only [memOfBytes]
      split
      · rw [hj, ih]; simp
      · simp only [memGet, if_neg (show k ≠ k + (j + 1) by omega)]
        rw [hj, ih]; simp

end Sys2Proof.Machine
end

