-- ==== Sys2Proof/Laws/State.lean ====
section
/-! SUPPORT. One lemma per field per update of the state, so that no later proof unfolds a record update; and the byte order
of words and pairs. -/

namespace Sys2Proof

@[simp] theorem highByte_wordOf (hi lo : Byte) : highByte (wordOf hi lo) = hi := by
  have h : (hi ++ lo : BitVec (8 + 8)).extractLsb' 8 8 = hi := by
    ext i h
    rw [BitVec.getElem_extractLsb', BitVec.getLsbD_append, if_neg (by omega), Nat.add_sub_cancel_left]
    exact BitVec.getLsbD_eq_getElem h
  exact h

@[simp] theorem lowByte_wordOf (hi lo : Byte) : lowByte (wordOf hi lo) = lo := by
  have h : (hi ++ lo : BitVec (8 + 8)).extractLsb' 0 8 = lo := by
    ext i h
    rw [BitVec.getElem_extractLsb', BitVec.getLsbD_append, if_pos (by omega), Nat.zero_add]
    exact BitVec.getLsbD_eq_getElem h
  exact h

/-- "`(h ++ l)` of two bytes is the word `h*256 + l`" (R6). -/
theorem wordOf_toNat (hi lo : Byte) : (wordOf hi lo).toNat = hi.toNat * 256 + lo.toNat := by
  have h : (hi ++ lo : BitVec (8 + 8)).toNat = hi.toNat * 256 + lo.toNat := by
    rw [BitVec.toNat_append, ← Nat.shiftLeft_add_eq_or_of_lt lo.isLt, Nat.shiftLeft_eq]
  exact h

theorem lowByte_toNat (w : Word) : (lowByte w).toNat = w.toNat % 256 := by simp [lowByte]

theorem highByte_toNat (w : Word) : (highByte w).toNat = w.toNat / 256 := by
  have := w.isLt
  simp [highByte, Nat.shiftRight_eq_div_pow]; omega

@[simp] theorem wordOf_highByte_lowByte (w : Word) : wordOf (highByte w) (lowByte w) = w := by
  apply BitVec.eq_of_toNat_eq
  rw [wordOf_toNat, highByte_toNat, lowByte_toNat]
  omega

end Sys2Proof

namespace Sys2Proof.Machine

/-! ### `setReg` -/

@[simp] theorem setReg_f (r : Reg8) (v : Byte) (s : State) : (setReg r v s).cpu.f = s.cpu.f := by cases r <;> rfl
@[simp] theorem setReg_sp (r : Reg8) (v : Byte) (s : State) : (setReg r v s).cpu.sp = s.cpu.sp := by cases r <;> rfl
@[simp] theorem setReg_pc (r : Reg8) (v : Byte) (s : State) : (setReg r v s).cpu.pc = s.cpu.pc := by cases r <;> rfl
@[simp] theorem setReg_ime (r : Reg8) (v : Byte) (s : State) : (setReg r v s).cpu.ime = s.cpu.ime := by cases r <;> rfl
@[simp] theorem setReg_mmu (r : Reg8) (v : Byte) (s : State) : (setReg r v s).mmu = s.mmu := by cases r <;> rfl
@[simp] theorem setReg_gpu (r : Reg8) (v : Byte) (s : State) : (setReg r v s).gpu = s.gpu := by cases r <;> rfl
@[simp] theorem setReg_cycles (r : Reg8) (v : Byte) (s : State) : (setReg r v s).cycles = s.cycles := by cases r <;> rfl
@[simp] theorem setReg_draws (r : Reg8) (v : Byte) (s : State) : (setReg r v s).draws = s.draws := by cases r <;> rfl

/-! ### `setF` -/

@[simp] theorem setF_f (v : Byte) (s : State) : (setF v s).cpu.f = v := rfl
@[simp] theorem setF_sp (v : Byte) (s : State) : (setF v s).cpu.sp = s.cpu.sp := rfl
@[simp] theorem setF_pc (v : Byte) (s : State) : (setF v s).cpu.pc = s.cpu.pc := rfl
@[simp] theorem setF_ime (v : Byte) (s : State) : (setF v s).cpu.ime = s.cpu.ime := rfl
@[simp] theorem setF_mmu (v : Byte) (s : State) : (setF v s).mmu = s.mmu := rfl
@[simp] theorem setF_gpu (v : Byte) (s : State) : (setF v s).gpu = s.gpu := rfl
@[simp] theorem setF_cycles (v : Byte) (s : State) : (setF v s).cycles = s.cycles := rfl
@[simp] theorem setF_draws (v : Byte) (s : State) : (setF v s).draws = s.draws := rfl
@[simp] theorem getReg_setF (q : Reg8) (v : Byte) (s : State) : getReg q (setF v s) = getReg q s := by cases q <;> rfl
@[simp] theorem getPair_setF (q : Pair) (v : Byte) (s : State) : getPair q (setF v s) = getPair q s := by cases q <;> rfl

/-! ### `setSP` -/

@[simp] theorem setSP_f (v : Word) (s : State) : (setSP v s).cpu.f = s.cpu.f := rfl
@[simp] theorem setSP_sp (v : Word) (s : State) : (setSP v s).cpu.sp = v := rfl
@[simp] theorem setSP_pc (v : Word) (s : State) : (setSP v s).cpu.pc = s.cpu.pc := rfl
@[simp] theorem setSP_ime (v : Word) (s : State) : (setSP v s).cpu.ime = s.cpu.ime := rfl
@[simp] theorem setSP_mmu (v : Word) (s : State) : (setSP v s).mmu = s.mmu := rfl
@[simp] theorem setSP_gpu (v : Word) (s : State) : (setSP v s).gpu = s.gpu := rfl
@[simp] theorem setSP_cycles (v : Word) (s : State) : (setSP v s).cycles = s.cycles := rfl
@[simp] theorem setSP_draws (v : Word) (s : State) : (setSP v s).draws = s.draws := rfl
@[simp] theorem getReg_setSP (q : Reg8) (v : Word) (s : State) : getReg q (setSP v s) = getReg q s := by cases q <;> rfl

/-! ### `setIME` -/

@[simp] theorem setIME_f (v : Bool) (s : State) : (setIME v s).cpu.f = s.cpu.f := rfl
@[simp] theorem setIME_sp (v : Bool) (s : State) : (setIME v s).cpu.sp = s.cpu.sp := rfl
@[simp] theorem setIME_pc (v : Bool) (s : State) : (setIME v s).cpu.pc = s.cpu.pc := rfl
@[simp] theorem setIME_ime (v : Bool) (s : State) : (setIME v s).cpu.ime = v := rfl
@[simp] theorem setIME_mmu (v : Bool) (s : State) : (setIME v s).mmu = s.mmu := rfl
@[simp] theorem setIME_gpu (v : Bool) (s : State) : (setIME v s).gpu = s.gpu := rfl
@[simp] theorem setIME_cycles (v : Bool) (s : State) : (setIME v s).cycles = s.cycles := rfl
@[simp] theorem setIME_draws (v : Bool) (s : State) : (setIME v s).draws = s.draws := rfl
@[simp] theorem getReg_setIME (q : Reg8) (v : Bool) (s : State) : getReg q (setIME v s) = getReg q s := by cases q <;> rfl
@[simp] theorem getPair_setIME (q : Pair) (v : Bool) (s : State) : getPair q (setIME v s) = getPair q s := by cases q <;> rfl

/-! ### `setFlags` -/

@[simp] theorem setFlags_f (u : FlagUpdate) (s : State) : (setFlags u s).cpu.f = writeFlags u s.cpu.f := rfl
@[simp] theorem setFlags_sp (u : FlagUpdate) (s : State) : (setFlags u s).cpu.sp = s.cpu.sp := rfl
@[simp] theorem setFlags_pc (u : FlagUpdate) (s : State) : (setFlags u s).cpu.pc = s.cpu.pc := rfl
@[simp] theorem setFlags_ime (u : FlagUpdate) (s : State) : (setFlags u s).cpu.ime = s.cpu.ime := rfl
@[simp] theorem setFlags_mmu (u : FlagUpdate) (s : State) : (setFlags u s).mmu = s.mmu := rfl
@[simp] theorem setFlags_gpu (u : FlagUpdate) (s : State) : (setFlags u s).gpu = s.gpu := rfl
@[simp] theorem setFlags_cycles (u : FlagUpdate) (s : State) : (setFlags u s).cycles = s.cycles := rfl
@[simp] theorem setFlags_draws (u : FlagUpdate) (s : State) : (setFlags u s).draws = s.draws := rfl
@[simp] theorem getReg_setFlags (q : Reg8) (u : FlagUpdate) (s : State) : getReg q (setFlags u s) = getReg q s := by cases q <;> rfl
@[simp] theorem getPair_setFlags (q : Pair) (u : FlagUpdate) (s : State) : getPair q (setFlags u s) = getPair q s := by cases q <;> rfl

/-! ### `setPair` -/

@[simp] theorem setPair_f (p : Pair) (v : Word) (s : State) : (setPair p v s).cpu.f = s.cpu.f := by cases p <;> rfl
@[simp] theorem setPair_pc (p : Pair) (v : Word) (s : State) : (setPair p v s).cpu.pc = s.cpu.pc := by cases p <;> rfl
@[simp] theorem setPair_ime (p : Pair) (v : Word) (s : State) : (setPair p v s).cpu.ime = s.cpu.ime := by cases p <;> rfl
@[simp] theorem setPair_mmu (p : Pair) (v : Word) (s : State) : (setPair p v s).mmu = s.mmu := by cases p <;> rfl
@[simp] theorem setPair_gpu (p : Pair) (v : Word) (s : State) : (setPair p v s).gpu = s.gpu := by cases p <;> rfl
@[simp] theorem setPair_cycles (p : Pair) (v : Word) (s : State) : (setPair p v s).cycles = s.cycles := by cases p <;> rfl
@[simp] theorem setPair_draws (p : Pair) (v : Word) (s : State) : (setPair p v s).draws = s.draws := by cases p <;> rfl

/-! ### `setStackPair` -/

@[simp] theorem setStackPair_sp (p : StackPair) (v : Word) (s : State) : (setStackPair p v s).cpu.sp = s.cpu.sp := by cases p <;> rfl
@[simp] theorem setStackPair_pc (p : StackPair) (v : Word) (s : State) : (setStackPair p v s).cpu.pc = s.cpu.pc := by cases p <;> rfl
@[simp] theorem setStackPair_ime (p : StackPair) (v : Word) (s : State) : (setStackPair p v s).cpu.ime = s.cpu.ime := by cases p <;> rfl
@[simp] theorem setStackPair_mmu (p : StackPair) (v : Word) (s : State) : (setStackPair p v s).mmu = s.mmu := by cases p <;> rfl
@[simp] theorem setStackPair_gpu (p : StackPair) (v : Word) (s : State) : (setStackPair p v s).gpu = s.gpu := by cases p <;> rfl
@[simp] theorem setStackPair_cycles (p : StackPair) (v : Word) (s : State) : (setStackPair p v s).cycles = s.cycles := by cases p <;> rfl
@[simp] theorem setStackPair_draws (p : StackPair) (v : Word) (s : State) : (setStackPair p v s).draws = s.draws := by cases p <;> rfl

/-! ### `endAt` -/

@[simp] theorem endAt_f (target : Word) (m : Nat) (s : State) : (endAt target m s).cpu.f = s.cpu.f := rfl
@[simp] theorem endAt_sp (target : Word) (m : Nat) (s : State) : (endAt target m s).cpu.sp = s.cpu.sp := rfl
@[simp] theorem endAt_pc (target : Word) (m : Nat) (s : State) : (endAt target m s).cpu.pc = target := rfl
@[simp] theorem endAt_ime (target : Word) (m : Nat) (s : State) : (endAt target m s).cpu.ime = s.cpu.ime := rfl
@[simp] theorem endAt_mmu (target : Word) (m : Nat) (s : State) : (endAt target m s).mmu = s.mmu := rfl
@[simp] theorem endAt_gpu (target : Word) (m : Nat) (s : State) : (endAt target m s).gpu = s.gpu := rfl
@[simp] theorem endAt_cycles (target : Word) (m : Nat) (s : State) : (endAt target m s).cycles = m := rfl
@[simp] theorem endAt_draws (target : Word) (m : Nat) (s : State) : (endAt target m s).draws = s.draws := rfl
@[simp] theorem getReg_endAt (q : Reg8) (target : Word) (m : Nat) (s : State) : getReg q (endAt target m s) = getReg q s := by cases q <;> rfl
@[simp] theorem getPair_endAt (q : Pair) (target : Word) (m : Nat) (s : State) : getPair q (endAt target m s) = getPair q s := by cases q <;> rfl

/-! ### Reading what was written -/

/-- A register write is seen by the register's own next read and by no other (R10, R18). -/
theorem getReg_setReg (q r : Reg8) (v : Byte) (s : State) :
    getReg q (setReg r v s) = if q = r then v else getReg q s := by
  cases q <;> cases r <;> rfl

@[simp] theorem getReg_setReg_self (r : Reg8) (v : Byte) (s : State) : getReg r (setReg r v s) = v := by
  simp [getReg_setReg]

/-- A register written with the value it holds changes nothing (R100, the corner case y = z). -/
@[simp] theorem setReg_getReg (r : Reg8) (s : State) : setReg r (getReg r s) s = s := by cases r <;> rfl

/-- The high register of a pair (R11). -/
def highReg : Pair → Option Reg8
  | .bc => some .b
  | .de => some .d
  | .hl => some .h
  | .sp => none

/-- The low register of a pair (R11). -/
def lowReg : Pair → Option Reg8
  | .bc => some .c
  | .de => some .e
  | .hl => some .l
  | .sp => none

/-- "A write of a byte register is seen by the next read of its pair and the reverse" (R11). -/
theorem getReg_setPair (q : Reg8) (p : Pair) (v : Word) (s : State) :
    getReg q (setPair p v s) =
      if highReg p = some q then highByte v else if lowReg p = some q then lowByte v else getReg q s := by
  cases q <;> cases p <;> rfl

@[simp] theorem getPair_setPair_self (p : Pair) (v : Word) (s : State) : getPair p (setPair p v s) = v := by
  cases p <;> simp [getPair, setPair, setSP]

/-- The pairs share no register: writing one leaves the others. -/
theorem getPair_setPair_ne {q p : Pair} (v : Word) (s : State) (h : q ≠ p) : getPair q (setPair p v s) = getPair q s := by
  cases q <;> cases p <;> first | exact absurd rfl h | rfl

theorem setPair_sp_ne {p : Pair} (v : Word) (s : State) (h : p ≠ .sp) : (setPair p v s).cpu.sp = s.cpu.sp := by
  cases p <;> first | exact absurd rfl h | rfl

@[simp] theorem getPair_sp (s : State) : getPair .sp s = s.cpu.sp := rfl
@[simp] theorem getReg_a (s : State) : getReg .a s = s.cpu.a := rfl
@[simp] theorem setPair_sp (v : Word) (s : State) : setPair .sp v s = setSP v s := rfl

/-- A stack pair's write, register by register (R11, R66). -/
theorem getReg_setStackPair (q : Reg8) (p : StackPair) (v : Word) (s : State) :
    getReg q (setStackPair p v s) =
      match p with
      | .bc => getReg q (setPair .bc v s)
      | .de => getReg q (setPair .de v s)
      | .hl => getReg q (setPair .hl v s)
      | .af => if q = .a then highByte v else getReg q s := by
  cases p <;> cases q <;> rfl

/-- Only POP AF's pair writes F, and it forces F[3:0] to 0 (R11, R12). -/
theorem setStackPair_f (p : StackPair) (v : Word) (s : State) :
    (setStackPair p v s).cpu.f = if p = .af then lowByte v &&& 0xF0 else s.cpu.f := by
  cases p <;> rfl

/-! ### The end of an instruction -/

@[simp] theorem jumpTo_eq (target : Word) (m : Nat) (s : State) : jumpTo target m s = .next (endAt target m s) := rfl
@[simp] theorem finish_eq (len m : Nat) (s : State) : finish len m s = .next (endAt (nextPC len s) m s) := rfl
@[simp] theorem flagOf_eq (g : Flag) (s : State) : flagOf g s = testFlag g s.cpu.f := rfl

/-- Only PC enters the address of the next instruction. -/
theorem nextPC_congr {s t : State} (len : Nat) (h : t.cpu.pc = s.cpu.pc) : nextPC len t = nextPC len s := by
  simp [nextPC, h]

end Sys2Proof.Machine
end

