-- ==== Sys2Proof/Laws/Mmu.lean ====
section
/-! SUPPORT. Laws of the MMU: what a byte read, a byte write, a word access and the stack operations do and what they leave alone. -/

namespace Sys2Proof.Machine

/-! ### Reads -/

/-- What an address reads as depends on the MMU and the GPU alone. -/
theorem byteAt_congr {s t : State} (hm : t.mmu = s.mmu) (hg : t.gpu = s.gpu) (addr : Word) :
    byteAt t addr = byteAt s addr := by
  unfold byteAt placeOf
  rw [hm]
  cases place s.mmu.inBios addr <;> simp [byteAtPlace, hm, hg]

/-- A read of a claimed address: the byte, and no change (R40). -/
theorem read8_of_mapped {s : State} {addr : Word} {v : Byte} (h : byteAt s addr = some v) : read8 addr s = (v, s) := by
  simp [read8, h]

/-- A read of an unclaimed address: the next free value (R42). -/
theorem read8_of_unmapped {s : State} {addr : Word} (h : byteAt s addr = none) :
    read8 addr s = (Config.unmappedRead s.draws addr, { s with draws := s.draws + 1 }) := by
  simp [read8, h]

/-- Everything a read can do to the state: nothing, or one draw of a free value. -/
theorem read8_state (addr : Word) (s : State) :
    (read8 addr s).2 = { s with draws := s.draws + if byteAt s addr = none then 1 else 0 } := by
  unfold read8
  cases h : byteAt s addr <;> simp

@[simp] theorem read8_cpu (addr : Word) (s : State) : (read8 addr s).2.cpu = s.cpu := by rw [read8_state]
@[simp] theorem read8_mmu (addr : Word) (s : State) : (read8 addr s).2.mmu = s.mmu := by rw [read8_state]
@[simp] theorem read8_gpu (addr : Word) (s : State) : (read8 addr s).2.gpu = s.gpu := by rw [read8_state]
@[simp] theorem read8_cycles (addr : Word) (s : State) : (read8 addr s).2.cycles = s.cycles := by rw [read8_state]
@[simp] theorem getReg_read8 (q : Reg8) (addr : Word) (s : State) : getReg q (read8 addr s).2 = getReg q s := by
  rw [read8_state]; cases q <;> rfl
@[simp] theorem getPair_read8 (q : Pair) (addr : Word) (s : State) : getPair q (read8 addr s).2 = getPair q s := by
  rw [read8_state]; cases q <;> rfl
@[simp] theorem byteAt_read8 (addr b : Word) (s : State) : byteAt (read8 addr s).2 b = byteAt s b :=
  byteAt_congr (by simp) (by simp) b

/-- A word read of claimed addresses (R43). -/
theorem read16_of_mapped {s : State} {addr : Word} {lo hi : Byte} (hlo : byteAt s addr = some lo)
    (hhi : byteAt s (addr + 1) = some hi) : read16 addr s = (wordOf hi lo, s) := by
  simp only [read16, read8_of_mapped hlo, read8_of_mapped hhi]

@[simp] theorem read16_cpu (addr : Word) (s : State) : (read16 addr s).2.cpu = s.cpu := by simp [read16]
@[simp] theorem read16_mmu (addr : Word) (s : State) : (read16 addr s).2.mmu = s.mmu := by simp [read16]
@[simp] theorem read16_gpu (addr : Word) (s : State) : (read16 addr s).2.gpu = s.gpu := by simp [read16]
@[simp] theorem read16_cycles (addr : Word) (s : State) : (read16 addr s).2.cycles = s.cycles := by simp [read16]
@[simp] theorem getReg_read16 (q : Reg8) (addr : Word) (s : State) : getReg q (read16 addr s).2 = getReg q s := by
  simp [read16]

/-! ### The address decode -/

/-- The register map as tests, one by one (60_exceptions.md R250). -/
theorem gpuRegAt_ite (a : Nat) : gpuRegAt a =
    if a = 0xFF40 then some .lcdc else if a = 0xFF41 then some .stat else if a = 0xFF42 then some .scy
    else if a = 0xFF43 then some .scx else if a = 0xFF44 then some .ly else if a = 0xFF45 then some .lyc
    else if a = 0xFF47 then some .bgp else if a = 0xFF48 then some .obp0 else if a = 0xFF49 then some .obp1
    else if a = 0xFF4A then some .wy else if a = 0xFF4B then some .wx else none := by
  unfold gpuRegAt
  split <;> first
    | rfl
    | (rename_i h1 h2 h3 h4 h5 h6 h7 h8 h9 h10 h11
       rw [if_neg h1, if_neg h2, if_neg h3, if_neg h4, if_neg h5, if_neg h6, if_neg h7, if_neg h8, if_neg h9, if_neg h10,
         if_neg h11])

/-- The address decode as tests, in the order of 20_memory.md R40. -/
theorem placeOf_ite (s : State) (addr : Word) : placeOf s addr =
    if s.mmu.inBios = true ∧ addr.toNat < 0x0100 then .boot addr.toNat
    else if addr.toNat ≤ 0x7FFF then .rom addr.toNat
    else if addr.toNat ≤ 0x9FFF then .vram (addr.toNat - 0x8000)
    else if addr.toNat ≤ 0xBFFF then .eram (addr.toNat - 0xA000)
    else if addr.toNat ≤ 0xDFFF then .wram (addr.toNat - 0xC000)
    else if addr.toNat ≤ 0xFDFF then .wram (addr.toNat - 0xE000)
    else if addr.toNat ≤ 0xFE9F then .oam (addr.toNat - 0xFE00)
    else if 0xFF80 ≤ addr.toNat then .zram (addr.toNat - 0xFF80)
    else ((gpuRegAt addr.toNat).map .gpuReg).getD .unmapped := by
  unfold placeOf place
  have h : (match gpuRegAt addr.toNat with | some r => Place.gpuReg r | none => .unmapped) =
      ((gpuRegAt addr.toNat).map .gpuReg).getD .unmapped := by cases gpuRegAt addr.toNat <;> rfl
  rw [← h]
  cases s.mmu.inBios <;> simp only [Bool.false_and, Bool.true_and, decide_eq_true_eq, Bool.false_eq_true, false_and, true_and] <;> rfl

/-! ### Writes -/

@[simp] theorem gpuRegWrite_ly (r : GpuReg) (v : Byte) (g : Gpu) : (gpuRegWrite r v g).ly = g.ly := by cases r <;> rfl
@[simp] theorem gpuRegWrite_mode (r : GpuReg) (v : Byte) (g : Gpu) : (gpuRegWrite r v g).mode = g.mode := by cases r <;> rfl
@[simp] theorem gpuRegWrite_clock (r : GpuReg) (v : Byte) (g : Gpu) : (gpuRegWrite r v g).clock = g.clock := by cases r <;> rfl
@[simp] theorem gpuRegWrite_vram (r : GpuReg) (v : Byte) (g : Gpu) : (gpuRegWrite r v g).vram = g.vram := by cases r <;> rfl
@[simp] theorem gpuRegWrite_oam (r : GpuReg) (v : Byte) (g : Gpu) : (gpuRegWrite r v g).oam = g.oam := by cases r <;> rfl
@[simp] theorem gpuRegWrite_fb (r : GpuReg) (v : Byte) (g : Gpu) : (gpuRegWrite r v g).fb = g.fb := by cases r <;> rfl

/-- A GPU register's write leaves every other register's read alone (R252). -/
theorem gpuRegRead_gpuRegWrite_ne {q r : GpuReg} (v : Byte) (g : Gpu) (h : q ≠ r) :
    gpuRegRead q (gpuRegWrite r v g) = gpuRegRead q g := by
  cases q <;> cases r <;> first | exact absurd rfl h | rfl

@[simp] theorem writePlace_cpu (p : Place) (v : Byte) (s : State) : (writePlace p v s).cpu = s.cpu := by cases p <;> rfl
@[simp] theorem writePlace_cycles (p : Place) (v : Byte) (s : State) : (writePlace p v s).cycles = s.cycles := by cases p <;> rfl
@[simp] theorem writePlace_draws (p : Place) (v : Byte) (s : State) : (writePlace p v s).draws = s.draws := by cases p <;> rfl
@[simp] theorem writePlace_inBios (p : Place) (v : Byte) (s : State) : (writePlace p v s).mmu.inBios = s.mmu.inBios := by cases p <;> rfl
@[simp] theorem writePlace_boot (p : Place) (v : Byte) (s : State) : (writePlace p v s).mmu.boot = s.mmu.boot := by cases p <;> rfl
@[simp] theorem writePlace_rom (p : Place) (v : Byte) (s : State) : (writePlace p v s).mmu.rom = s.mmu.rom := by cases p <;> rfl
@[simp] theorem writePlace_ly (p : Place) (v : Byte) (s : State) : (writePlace p v s).gpu.ly = s.gpu.ly := by cases p <;> simp [writePlace]
@[simp] theorem writePlace_mode (p : Place) (v : Byte) (s : State) : (writePlace p v s).gpu.mode = s.gpu.mode := by cases p <;> simp [writePlace]
@[simp] theorem writePlace_clock (p : Place) (v : Byte) (s : State) : (writePlace p v s).gpu.clock = s.gpu.clock := by cases p <;> simp [writePlace]
@[simp] theorem writePlace_fb (p : Place) (v : Byte) (s : State) : (writePlace p v s).gpu.fb = s.gpu.fb := by cases p <;> simp [writePlace]

@[simp] theorem write8_cpu (addr : Word) (v : Byte) (s : State) : (write8 addr v s).cpu = s.cpu := writePlace_cpu ..
@[simp] theorem write8_cycles (addr : Word) (v : Byte) (s : State) : (write8 addr v s).cycles = s.cycles := writePlace_cycles ..
@[simp] theorem write8_draws (addr : Word) (v : Byte) (s : State) : (write8 addr v s).draws = s.draws := writePlace_draws ..
@[simp] theorem write8_inBios (addr : Word) (v : Byte) (s : State) : (write8 addr v s).mmu.inBios = s.mmu.inBios := writePlace_inBios ..
@[simp] theorem write8_boot (addr : Word) (v : Byte) (s : State) : (write8 addr v s).mmu.boot = s.mmu.boot := writePlace_boot ..
@[simp] theorem write8_rom (addr : Word) (v : Byte) (s : State) : (write8 addr v s).mmu.rom = s.mmu.rom := writePlace_rom ..
@[simp] theorem write8_ly (addr : Word) (v : Byte) (s : State) : (write8 addr v s).gpu.ly = s.gpu.ly := writePlace_ly ..
@[simp] theorem write8_mode (addr : Word) (v : Byte) (s : State) : (write8 addr v s).gpu.mode = s.gpu.mode := writePlace_mode ..
@[simp] theorem write8_clock (addr : Word) (v : Byte) (s : State) : (write8 addr v s).gpu.clock = s.gpu.clock := writePlace_clock ..
@[simp] theorem write8_fb (addr : Word) (v : Byte) (s : State) : (write8 addr v s).gpu.fb = s.gpu.fb := writePlace_fb ..
@[simp] theorem placeOf_write8 (addr b : Word) (v : Byte) (s : State) : placeOf (write8 addr v s) b = placeOf s b := by
  simp [placeOf]
@[simp] theorem getReg_write8 (q : Reg8) (addr : Word) (v : Byte) (s : State) : getReg q (write8 addr v s) = getReg q s := by
  cases q <;> simp [getReg]
@[simp] theorem getPair_write8 (q : Pair) (addr : Word) (v : Byte) (s : State) : getPair q (write8 addr v s) = getPair q s := by
  cases q <;> simp [getPair]

/-- A write leaves every other place alone (R41: "at most one byte of one array, or one GPU register, and nothing else"). -/
theorem byteAtPlace_writePlace_ne {p q : Place} (v : Byte) (s : State) (h : q ≠ p) :
    byteAtPlace (writePlace p v s) q = byteAtPlace s q := by
  cases p <;> cases q <;>
    simp_all [byteAtPlace, writePlace, memGet_memSet_ne, gpuRegRead_gpuRegWrite_ne] <;> rename_i r v' <;> cases v' <;> rfl

/-- An address that names another place reads as before (R41). -/
theorem byteAt_write8_ne {addr b : Word} (v : Byte) (s : State) (h : placeOf s b ≠ placeOf s addr) :
    byteAt (write8 addr v s) b = byteAt s b := by
  unfold byteAt
  rw [placeOf_write8]
  exact byteAtPlace_writePlace_ne v s h

@[simp] theorem write16_cpu (addr v : Word) (s : State) : (write16 addr v s).cpu = s.cpu := by simp [write16]
@[simp] theorem write16_cycles (addr v : Word) (s : State) : (write16 addr v s).cycles = s.cycles := by simp [write16]
@[simp] theorem write16_draws (addr v : Word) (s : State) : (write16 addr v s).draws = s.draws := by simp [write16]
@[simp] theorem getReg_write16 (q : Reg8) (addr v : Word) (s : State) : getReg q (write16 addr v s) = getReg q s := by
  simp [write16]

/-- A word write leaves every address alone that names neither of its two bytes (R44). -/
theorem byteAt_write16_ne {addr b : Word} (v : Word) (s : State) (h0 : placeOf s b ≠ placeOf s addr)
    (h1 : placeOf s b ≠ placeOf s (addr + 1)) : byteAt (write16 addr v s) b = byteAt s b := by
  unfold write16
  rw [byteAt_write8_ne _ _ (by simpa using h1), byteAt_write8_ne _ _ h0]

/-! ### The stack -/

@[simp] theorem setSP_mmu_placeOf (v : Word) (s : State) (b : Word) : placeOf (setSP v s) b = placeOf s b := rfl

/-- Everything a push does: SP moves and one word is written at the new SP (R126). -/
theorem push16_spec (v : Word) (s : State) :
    (push16 v s).cpu = { s.cpu with sp := s.cpu.sp - 2 } ∧ (push16 v s).cycles = s.cycles ∧ (push16 v s).draws = s.draws ∧
      (push16 v s).mmu = (write16 (s.cpu.sp - 2) v s).mmu ∧ (push16 v s).gpu = (write16 (s.cpu.sp - 2) v s).gpu := by
  refine ⟨by simp [push16, setSP], by simp [push16], by simp [push16], ?_, ?_⟩ <;>
  · simp only [push16, write16, write8, setSP_mmu_placeOf]
    generalize placeOf s _ = p
    rw [show placeOf (writePlace p (lowByte v) (setSP (s.cpu.sp - 2) s)) (s.cpu.sp - 2 + 1) = placeOf s (s.cpu.sp - 2 + 1) by
        simp [placeOf],
      show placeOf (writePlace p (lowByte v) s) (s.cpu.sp - 2 + 1) = placeOf s (s.cpu.sp - 2 + 1) by simp [placeOf]]
    generalize placeOf s _ = q
    cases p <;> cases q <;> rfl

/-- A push leaves every address alone that names neither of the stack's two bytes (R126). -/
theorem byteAt_push16_ne {b : Word} (v : Word) (s : State) (h0 : placeOf s b ≠ placeOf s (s.cpu.sp - 2))
    (h1 : placeOf s b ≠ placeOf s (s.cpu.sp - 2 + 1)) : byteAt (push16 v s) b = byteAt s b := by
  obtain ⟨-, -, -, hm, hg⟩ := push16_spec v s
  rw [byteAt_congr hm hg, byteAt_write16_ne v s h0 h1]

/-- Everything a pop does: SP moves, and no byte of memory changes (R127). -/
theorem pop16_spec (s : State) :
    (pop16 s).1 = (read16 s.cpu.sp s).1 ∧ (pop16 s).2 = setSP (s.cpu.sp + 2) (read16 s.cpu.sp s).2 := ⟨rfl, rfl⟩

@[simp] theorem pop16_cpu (s : State) : (pop16 s).2.cpu = { s.cpu with sp := s.cpu.sp + 2 } := by simp [pop16, setSP]
@[simp] theorem pop16_mmu (s : State) : (pop16 s).2.mmu = s.mmu := by simp [pop16]
@[simp] theorem pop16_gpu (s : State) : (pop16 s).2.gpu = s.gpu := by simp [pop16]
@[simp] theorem pop16_cycles (s : State) : (pop16 s).2.cycles = s.cycles := by simp [pop16]

/-- A pop of claimed addresses (R127). -/
theorem pop16_of_mapped {s : State} {lo hi : Byte} (hlo : byteAt s s.cpu.sp = some lo)
    (hhi : byteAt s (s.cpu.sp + 1) = some hi) : pop16 s = (wordOf hi lo, setSP (s.cpu.sp + 2) s) := by
  simp [pop16, read16_of_mapped hlo hhi]

/-! ### Operands of a register code -/

@[simp] theorem readOperand_cpu (o : Operand8) (s : State) : (readOperand o s).2.cpu = s.cpu := by cases o <;> simp [readOperand]
@[simp] theorem readOperand_mmu (o : Operand8) (s : State) : (readOperand o s).2.mmu = s.mmu := by cases o <;> simp [readOperand]
@[simp] theorem readOperand_gpu (o : Operand8) (s : State) : (readOperand o s).2.gpu = s.gpu := by cases o <;> simp [readOperand]
@[simp] theorem getReg_readOperand (q : Reg8) (o : Operand8) (s : State) :
    getReg q (readOperand o s).2 = getReg q s := by cases o <;> simp [readOperand]
@[simp] theorem getPair_readOperand (q : Pair) (o : Operand8) (s : State) :
    getPair q (readOperand o s).2 = getPair q s := by cases o <;> simp [readOperand]

@[simp] theorem writeOperand_f (o : Operand8) (v : Byte) (s : State) : (writeOperand o v s).cpu.f = s.cpu.f := by
  cases o <;> simp [writeOperand]
@[simp] theorem writeOperand_sp (o : Operand8) (v : Byte) (s : State) : (writeOperand o v s).cpu.sp = s.cpu.sp := by
  cases o <;> simp [writeOperand]
@[simp] theorem writeOperand_pc (o : Operand8) (v : Byte) (s : State) : (writeOperand o v s).cpu.pc = s.cpu.pc := by
  cases o <;> simp [writeOperand]
@[simp] theorem writeOperand_ime (o : Operand8) (v : Byte) (s : State) : (writeOperand o v s).cpu.ime = s.cpu.ime := by
  cases o <;> simp [writeOperand]
@[simp] theorem writeOperand_draws (o : Operand8) (v : Byte) (s : State) : (writeOperand o v s).draws = s.draws := by
  cases o <;> simp [writeOperand]

/-- The register an operand names, if it names one. -/
def operandReg : Operand8 → Option Reg8
  | .reg r => some r
  | .atHL => none

/-- Writing an operand back changes no other register. -/
theorem getReg_writeOperand_ne {q : Reg8} {o : Operand8} (v : Byte) (s : State) (h : operandReg o ≠ some q) :
    getReg q (writeOperand o v s) = getReg q s := by
  cases o with
  | reg r => simp only [writeOperand, getReg_setReg]; rw [if_neg]; rintro rfl; exact h rfl
  | atHL => simp [writeOperand]

/-- Writing an operand back changes no byte of memory but the one at HL. -/
theorem byteAt_writeOperand_ne {o : Operand8} {b : Word} (v : Byte) (s : State)
    (h : o = .atHL → placeOf s b ≠ placeOf s (getPair .hl s)) : byteAt (writeOperand o v s) b = byteAt s b := by
  cases o with
  | reg r => exact byteAt_congr (by simp [writeOperand]) (by simp [writeOperand]) b
  | atHL => exact byteAt_write8_ne v s (h rfl)

end Sys2Proof.Machine
end

