-- ==== Sys2Proof/Laws/Arrays.lean ====
section
/-! SUPPORT. Laws of the storage arrays as wholes: an address names a cell inside its array, and every operation that changes an array
keeps all of them in canonical form and in bounds. -/

namespace Sys2Proof.Machine

/-- A place lies inside its array. -/
def Place.inArray : Place → Prop
  | .boot k => k < Config.bootSize
  | .rom k => k < Config.romSize
  | .vram k => k < Config.vramSize
  | .eram k => k < Config.eramSize
  | .wram k => k < Config.wramSize
  | .oam k => k < Config.oamSize
  | .zram k => k < Config.zramSize
  | .gpuReg _ => True
  | .unmapped => True

/-- The address decode names only cells that exist (20_memory.md R31). -/
theorem place_inArray (inBios : Bool) (addr : Word) : (place inBios addr).inArray := by
  have ha := addr.isLt
  unfold place
  simp only
  split
  · rename_i h; simp only [Bool.and_eq_true, decide_eq_true_eq] at h; exact h.2
  split
  · show _ < 0x8000; omega
  split
  · show _ < 0x2000; omega
  split
  · show _ < 0x2000; omega
  split
  · show _ < 0x2000; omega
  split
  · show _ < 0x2000; omega
  split
  · show _ < 0xA0; omega
  split
  · show _ < 0x80; omega
  split <;> trivial

/-- One array's part of `arraysOk`. -/
theorem memSet_ok {size k : Nat} {m : Memory} (v : Byte) (hk : k < size)
    (h : (Memory.wf m && Memory.inBounds size m) = true) :
    (Memory.wf (memSet m k v) && Memory.inBounds size (memSet m k v)) = true := by
  simp only [Bool.and_eq_true] at *
  exact ⟨memSet_wf m k v h.1, memSet_inBounds m v hk h.2⟩

/-- The arrays' good form says nothing of the CPU and the counters. -/
theorem arraysOk_congr {s t : State} (hm : t.mmu = s.mmu) (hg : t.gpu = s.gpu) : arraysOk t = arraysOk s := by
  unfold arraysOk; rw [hm, hg]

/-- The GPU registers are no part of the arrays' good form. -/
theorem arraysOk_gpu {s : State} {g : Gpu} (hv : g.vram = s.gpu.vram) (ho : g.oam = s.gpu.oam) (hf : g.fb = s.gpu.fb) :
    arraysOk { s with gpu := g } = arraysOk s := by
  unfold arraysOk; simp only [hv, ho, hf]

/-- Storing a byte at a place keeps the arrays' good form (20_memory.md R41). -/
theorem arraysOk_writePlace {p : Place} (v : Byte) {s : State} (hp : p.inArray) (h : arraysOk s = true) :
    arraysOk (writePlace p v s) = true := by
  cases p with
  | boot k => exact h
  | rom k => exact h
  | unmapped => exact h
  | gpuReg r => exact (arraysOk_gpu (by simp) (by simp) (by simp)).trans h
  | _ =>
    simp only [arraysOk, writePlace, Bool.and_eq_true] at h ⊢
    simp only [Place.inArray] at hp
    simp only [h, memSet_wf, memSet_inBounds _ _ hp, and_self]

/-- A byte write keeps the arrays' good form. -/
theorem arraysOk_write8 (addr : Word) (v : Byte) {s : State} (h : arraysOk s = true) : arraysOk (write8 addr v s) = true :=
  arraysOk_writePlace v (place_inArray _ _) h

/-- A word write keeps the arrays' good form. -/
theorem arraysOk_write16 (addr v : Word) {s : State} (h : arraysOk s = true) : arraysOk (write16 addr v s) = true :=
  arraysOk_write8 _ _ (arraysOk_write8 _ _ h)

/-- A read keeps the arrays' good form. -/
@[simp] theorem arraysOk_read8 (addr : Word) (s : State) : arraysOk (read8 addr s).2 = arraysOk s :=
  arraysOk_congr (by simp) (by simp)

/-- Placing a byte from outside keeps the arrays' good form (log 7). -/
theorem arraysOk_pokePlace {p : Place} (v : Byte) {s : State} (hp : p.inArray) (h : arraysOk s = true) :
    arraysOk (pokePlace p v s) = true := by
  cases p with
  | boot k =>
    simp only [arraysOk, pokePlace, Bool.and_eq_true] at h ⊢
    simp only [Place.inArray] at hp
    simp only [h, memSet_wf, memSet_inBounds _ _ hp, and_self]
  | rom k =>
    simp only [arraysOk, pokePlace, Bool.and_eq_true] at h ⊢
    simp only [Place.inArray] at hp
    simp only [h, memSet_wf, memSet_inBounds _ _ hp, and_self]
  | _ => exact arraysOk_writePlace v hp h

/-- Placing bytes from outside keeps the arrays' good form (log 7). -/
theorem arraysOk_pokeBytes (bytes : List Byte) (addr : Word) {s : State} (h : arraysOk s = true) :
    arraysOk (pokeBytes addr bytes s) = true := by
  induction bytes generalizing addr s with
  | nil => exact h
  | cons v vs ih => exact ih _ (arraysOk_pokePlace v (place_inArray _ _) h)

/-- Loading a ROM image keeps the arrays' good form (20_memory.md R45). -/
theorem arraysOk_load (bytes : List Byte) {s : State} (h : arraysOk s = true) : arraysOk (s.load bytes) = true := by
  simp only [arraysOk, State.load, Bool.and_eq_true] at h ⊢
  simp only [h, memOfBytes_wf, memOfBytes_inBounds _ (List.length_take_le _ _), and_self]

end Sys2Proof.Machine
end

