-- ==== Sys2Proof/Laws/Fetch.lean ====
section
/-! SUPPORT. Laws of the fetch and the decoder: what the fetch reads and leaves alone, and that the decoder never refuses what the
fetch has read, so that a step never refuses (log 19). -/

namespace Sys2Proof.Machine

/-- Reading `n` bytes gives `n` bytes. -/
@[simp] theorem readBytes_length (n : Nat) (addr : Word) (s : State) : (readBytes n addr s).1.length = n := by
  induction n generalizing addr s with
  | zero => rfl
  | succ n ih => simp [readBytes, ih]

/-- Reading bytes changes nothing but the counter of free values. -/
theorem readBytes_state (n : Nat) (addr : Word) (s : State) :
    ∃ k, (readBytes n addr s).2 = { s with draws := s.draws + k } := by
  induction n generalizing addr s with
  | zero => exact ⟨0, rfl⟩
  | succ n ih =>
    obtain ⟨k, hk⟩ := ih (addr + 1) (read8 addr s).2
    refine ⟨(if byteAt s addr = none then 1 else 0) + k, ?_⟩
    rw [readBytes, hk, read8_state, Nat.add_assoc]

/-- Bytes that claimed addresses hold are read as they are, with no free value taken. -/
theorem readBytes_mapped (bytes : List Byte) (addr : Word) (s : State)
    (h : ∀ k : Fin bytes.length, byteAt s (addr + BitVec.ofNat 16 k.val) = some (bytes.get k)) :
    readBytes bytes.length addr s = (bytes, s) := by
  induction bytes generalizing addr with
  | nil => rfl
  | cons v vs ih =>
    have h0 : byteAt s addr = some v := by simpa using h ⟨0, by simp⟩
    have hs : readBytes vs.length (addr + 1) s = (vs, s) := ih (addr + 1) fun k => by
      have ha : addr + 1 + BitVec.ofNat 16 k.val = addr + BitVec.ofNat 16 (k.val + 1) := by
        rw [BitVec.ofNat_add, BitVec.add_assoc, BitVec.add_comm (BitVec.ofNat 16 k.val)]; rfl
      rw [ha]
      exact h ⟨k.val + 1, Nat.succ_lt_succ k.isLt⟩
    rw [List.length_cons, readBytes, read8_of_mapped h0, hs]

/-- The fetch reads as many bytes as the first one says (30_encoding.md R79). -/
theorem fetchInstr_length (s : State) :
    (fetchInstr s).1.length = (instrLength (read8 s.cpu.pc s).1 - 1) + 1 := by
  simp [fetchInstr]

/-- The fetch changes nothing but the counter of free values. -/
theorem fetchInstr_state (s : State) : ∃ k, (fetchInstr s).2 = { s with draws := s.draws + k } := by
  obtain ⟨k, hk⟩ := readBytes_state (instrLength (read8 s.cpu.pc s).1 - 1) (s.cpu.pc + 1) (read8 s.cpu.pc s).2
  refine ⟨(if byteAt s s.cpu.pc = none then 1 else 0) + k, ?_⟩
  rw [fetchInstr, hk, read8_state, Nat.add_assoc]

/-- A length is 1, 2 or 3. -/
theorem instrLength_cases (b0 : Byte) : instrLength b0 = 1 ∨ instrLength b0 = 2 ∨ instrLength b0 = 3 := by
  unfold instrLength; split
  · exact .inr (.inr rfl)
  · split
    · exact .inr (.inl rfl)
    · exact .inl rfl

/-- One-byte instructions. -/
theorem decode_one {b0 : Byte} (rest : List Byte) (h : instrLength b0 = 1) :
    decode (b0 :: rest) = .ok (baseInstr b0 0 0, rest) := by
  show (match instrLength b0, rest with | 1, rest => _ | 2, b1 :: rest => _ | 3, lo :: hi :: rest => _ | _, _ => _) = _
  rw [h]; rfl

/-- Two-byte instructions. -/
theorem decode_two {b0 : Byte} (b1 : Byte) (rest : List Byte) (h : instrLength b0 = 2) :
    decode (b0 :: b1 :: rest) = .ok (if b0 = 0xCB then extendedInstr b1 else baseInstr b0 b1 0, rest) := by
  show (match instrLength b0, b1 :: rest with | 1, rest => _ | 2, b1 :: rest => _ | 3, lo :: hi :: rest => _ | _, _ => _) = _
  rw [h]; rfl

/-- Three-byte instructions. -/
theorem decode_three {b0 : Byte} (lo hi : Byte) (rest : List Byte) (h : instrLength b0 = 3) :
    decode (b0 :: lo :: hi :: rest) = .ok (baseInstr b0 0 (wordOf hi lo), rest) := by
  show (match instrLength b0, lo :: hi :: rest with
    | 1, rest => _ | 2, b1 :: rest => _ | 3, lo :: hi :: rest => _ | _, _ => _) = _
  rw [h]; rfl

/-- The decoder takes a list of exactly the length its first byte says. -/
theorem decode_exact (b0 : Byte) (more : List Byte) (h : more.length = instrLength b0 - 1) :
    ∃ i, decode (b0 :: more) = .ok (i, []) := by
  rcases instrLength_cases b0 with hl | hl | hl <;> rw [hl] at h
  · obtain rfl := List.length_eq_zero_iff.mp h
    exact ⟨_, decode_one _ hl⟩
  · obtain ⟨b1, rfl⟩ := List.length_eq_one_iff.mp h
    exact ⟨_, decode_two _ _ hl⟩
  · obtain ⟨lo, hi, rfl⟩ := List.length_eq_two.mp h
    exact ⟨_, decode_three _ _ _ hl⟩

/-- The decoder never refuses what the fetch reads (log 19). -/
theorem decode_fetchInstr (s : State) : ∃ i, decode (fetchInstr s).1 = .ok (i, []) := by
  rw [fetchInstr]
  exact decode_exact _ _ (by simp)

/-- A step is the execution of the instruction it fetched, then the GPU's advance. -/
theorem step_eq (s : State) :
    ∃ i, decode (fetchInstr s).1 = .ok (i, []) ∧
      step s =
        match exec i (fetchInstr s).2 with
        | .next t => .next (gpuAdvance t)
        | .fault r => .fault r
        | .refused r => .refused r := by
  obtain ⟨i, hi⟩ := decode_fetchInstr s
  refine ⟨i, hi, ?_⟩
  unfold step cpuStep
  rw [hi] <;> rfl

/-- Everything a step that goes on does: the fetch, an instruction's execution, the GPU's advance. -/
theorem step_next {s t : State} (h : step s = .next t) :
    ∃ i k u, exec i { s with draws := s.draws + k } = .next u ∧ t = gpuAdvance u := by
  obtain ⟨i, -, hstep⟩ := step_eq s
  obtain ⟨k, hk⟩ := fetchInstr_state s
  rw [hk] at hstep
  rw [hstep] at h
  refine ⟨i, k, ?_⟩
  split at h
  · rename_i u hu
    exact ⟨u, hu, (Host.Outcome.next.inj h).symm⟩
  · cases h
  · cases h

end Sys2Proof.Machine
end

