-- ==== Sys2Proof/Laws/Flags.lean ====
section
/-! SUPPORT. Laws of the flag primitives (spec 10_state.md R13): each flag is one bit of F; a write of one leaves the others; the low nibble
of F stays zero. -/

namespace Sys2Proof.Machine

/-- The bit of F that a flag is (R12). -/
def flagBit : Flag → Nat
  | .z => 7
  | .n => 6
  | .h => 5
  | .c => 4

/-- `testFlag` reads one bit of F (R12, R13). -/
theorem testFlag_eq_bit (g : Flag) (f : Byte) : testFlag g f = f.getLsbD (flagBit g) := by
  cases g <;> revert f <;> decide

theorem setFlag_bit (g : Flag) (f : Byte) (i : Nat) :
    (setFlag g f).getLsbD i = (f.getLsbD i || decide (i = flagBit g)) := by
  have h : (flagMask g).getLsbD i = decide (i = flagBit g) := by
    by_cases hi : i < 8
    · revert i; cases g <;> decide
    · rw [BitVec.getLsbD_of_ge _ _ (by omega)]
      have : flagBit g < 8 := by cases g <;> decide
      exact (decide_eq_false (by omega)).symm
  simp [setFlag, h]

theorem resetFlag_bit (g : Flag) (f : Byte) (i : Nat) (hi : 4 ≤ i) :
    (resetFlag g f).getLsbD i = (f.getLsbD i && decide (i ≠ flagBit g)) := by
  by_cases h8 : i < 8
  · have hm : (~~~ flagMask g &&& (0xF0 : Byte)).getLsbD i = decide (i ≠ flagBit g) := by
      revert i; cases g <;> decide
    unfold resetFlag
    rw [BitVec.and_assoc, BitVec.getLsbD_and, hm]
  · rw [BitVec.getLsbD_of_ge _ _ (by omega), BitVec.getLsbD_of_ge f _ (by omega)]; rfl

/-- A flag written reads as written, and every other flag reads as before (R13). -/
theorem testFlag_updateFlag (q g : Flag) (b : Bool) (f : Byte) :
    testFlag q (updateFlag g b f) = if q = g then b else testFlag q f := by
  simp only [testFlag_eq_bit, updateFlag]
  cases b
  · simp only [Bool.false_eq_true, if_false]
    rw [resetFlag_bit _ _ _ (by cases q <;> decide)]
    cases q <;> cases g <;> simp [flagBit]
  · simp only [if_true, setFlag_bit]
    cases q <;> cases g <;> simp [flagBit]

/-- One position of `flags <- (z, n, h, c)`. -/
theorem testFlag_writeFlag (q g : Flag) (b : Option Bool) (f : Byte) :
    testFlag q (writeFlag g b f) = if q = g then b.getD (testFlag q f) else testFlag q f := by
  cases b with
  | none => simp [writeFlag]
  | some b => simp [writeFlag, testFlag_updateFlag]

/-- What a flag update says of a flag. -/
def FlagUpdate.at (u : FlagUpdate) : Flag → Option Bool
  | .z => u.z
  | .n => u.n
  | .h => u.h
  | .c => u.c

/-- `flags <- (z, n, h, c)`: each flag takes its position's value, or stays where the position is `-` (R7, R13). -/
theorem testFlag_writeFlags (q : Flag) (u : FlagUpdate) (f : Byte) :
    testFlag q (writeFlags u f) = (u.at q).getD (testFlag q f) := by
  simp only [writeFlags, testFlag_writeFlag]
  cases q <;> simp [FlagUpdate.at]

theorem updateFlag_lowNibble (g : Flag) (b : Bool) (f : Byte) (h : f &&& 0x0F = 0x00) : updateFlag g b f &&& 0x0F = 0x00 := by
  revert f; cases g <;> cases b <;> decide

/-- "no other bits are ever set" (R12): a flag update keeps F's low nibble zero. -/
theorem writeFlags_lowNibble (u : FlagUpdate) (f : Byte) (h : f &&& 0x0F = 0x00) : writeFlags u f &&& 0x0F = 0x00 := by
  have one (g : Flag) (b : Option Bool) (f : Byte) (h : f &&& 0x0F = 0x00) : writeFlag g b f &&& 0x0F = 0x00 := by
    cases b with
    | none => exact h
    | some b => exact updateFlag_lowNibble g b f h
  exact one _ _ _ (one _ _ _ (one _ _ _ (one _ _ _ h)))

@[simp] theorem writeFlags_noFlags (f : Byte) : writeFlags noFlags f = f := rfl

end Sys2Proof.Machine
end

