-- ==== Sys2Proof/Laws/Forms.lean ====
section
/-! SUPPORT. Laws of the dispatch: what exec answers for each family of instructions, operand by operand, and one case
analysis of exec over all instructions by the shared operation their meanings call. -/

namespace Sys2Proof.Machine

/-! ### Family by family -/

theorem exec_ldForm (r r' : Reg8) (s : State) : exec (ldForm r r') s = loadReg r r' s := by
  cases r <;> cases r' <;> rfl

theorem exec_ldFromHLForm (r : Reg8) (s : State) : exec (ldFromHLForm r) s = loadFrom r (getPair .hl s) 1 2 s := by
  cases r <;> rfl

theorem exec_ldToHLForm (r : Reg8) (s : State) : exec (ldToHLForm r) s = storeTo (getPair .hl s) (getReg r s) 1 2 s := by
  cases r <;> rfl

theorem exec_ldImmForm_reg (r : Reg8) (d8 : Byte) (s : State) : exec (ldImmForm (.reg r) d8) s = loadImm r d8 s := by
  cases r <;> rfl

theorem exec_ldImmForm_atHL (d8 : Byte) (s : State) : exec (ldImmForm .atHL d8) s = storeTo (getPair .hl s) d8 2 3 s := by
  rfl

theorem exec_incForm (o : Operand8) (s : State) : exec (incForm o) s = incOperand o s := by
  rcases o with r | _
  · cases r <;> rfl
  · rfl

theorem exec_decForm (o : Operand8) (s : State) : exec (decForm o) s = decOperand o s := by
  rcases o with r | _
  · cases r <;> rfl
  · rfl

theorem exec_aluForm (op : AluOp) (o : Operand8) (s : State) : exec (aluForm op o) s = accOperand op o s := by
  rcases o with r | _
  · cases op <;> cases r <;> rfl
  · cases op <;> rfl

theorem exec_aluImmForm (op : AluOp) (d8 : Byte) (s : State) : exec (aluImmForm op d8) s = accImm op d8 s := by
  cases op <;> rfl

theorem exec_ldPairForm (p : Pair) (d16 : Word) (s : State) : exec (ldPairForm p d16) s = loadPairImm p d16 s := by
  cases p <;> rfl

theorem exec_addHLForm (p : Pair) (s : State) : exec (addHLForm p) s = addToHL p s := by
  cases p <;> rfl

theorem exec_incPairForm (p : Pair) (s : State) : exec (incPairForm p) s = incPair p s := by
  cases p <;> rfl

theorem exec_decPairForm (p : Pair) (s : State) : exec (decPairForm p) s = decPair p s := by
  cases p <;> rfl

theorem exec_popForm (p : StackPair) (s : State) : exec (popForm p) s = popPair p s := by
  cases p <;> rfl

theorem exec_pushForm (p : StackPair) (s : State) : exec (pushForm p) s = pushPair p s := by
  cases p <;> rfl

theorem exec_jrCondForm (cc : Cond) (e8 : Byte) (s : State) : exec (jrCondForm cc e8) s = relJumpIf cc e8 s := by
  cases cc <;> rfl

theorem exec_jpCondForm (cc : Cond) (a16 : Word) (s : State) : exec (jpCondForm cc a16) s = absJumpIf cc a16 s := by
  cases cc <;> rfl

theorem exec_callCondForm (cc : Cond) (a16 : Word) (s : State) : exec (callCondForm cc a16) s = callIf cc a16 s := by
  cases cc <;> rfl

theorem exec_retCondForm (cc : Cond) (s : State) : exec (retCondForm cc) s = returnIf cc s := by
  cases cc <;> rfl

theorem exec_rstForm (t : Fin 8) (s : State) : exec (rstForm t) s = restart t s := by
  fin_cases t <;> rfl

theorem exec_rotForm (op : RotOp) (o : Operand8) (s : State) : exec (rotForm op o) s = rotOperand op o s := by
  rcases o with r | _
  · cases op <;> cases r <;> rfl
  · cases op <;> rfl

theorem exec_bitForm (b : Fin 8) (o : Operand8) (s : State) : exec (bitForm b o) s = testOperand b o s := by
  rcases o with r | _
  · fin_cases b <;> cases r <;> rfl
  · fin_cases b <;> rfl

theorem exec_resForm (b : Fin 8) (o : Operand8) (s : State) : exec (resForm b o) s = resetOperand b o s := by
  rcases o with r | _
  · fin_cases b <;> cases r <;> rfl
  · fin_cases b <;> rfl

theorem exec_setForm (b : Fin 8) (o : Operand8) (s : State) : exec (setForm b o) s = setOperand b o s := by
  rcases o with r | _
  · fin_cases b <;> cases r <;> rfl
  · fin_cases b <;> rfl

/-! ### All instructions at once -/

/-- A property of results holds of every shared operation at a state. -/
structure SharedForms (P : Result → Prop) (s : State) : Prop where
  jump : ∀ target m, 1 ≤ m → m ≤ 6 → P (jumpTo target m s)
  ime : ∀ v, P (finish 1 1 (setIME v s))
  loadReg : ∀ r r', P (loadReg r r' s)
  loadImm : ∀ r d8, P (loadImm r d8 s)
  loadFrom : ∀ r addr len m, 1 ≤ m → m ≤ 6 → P (loadFrom r addr len m s)
  storeTo : ∀ addr v len m, 1 ≤ m → m ≤ 6 → P (storeTo addr v len m s)
  storeThenStep : ∀ delta, P (storeThenStep delta s)
  loadThenStep : ∀ delta, P (loadThenStep delta s)
  loadPairImm : ∀ p d16, P (loadPairImm p d16 s)
  storeWord : ∀ addr v, P (finish 3 5 (write16 addr v s))
  loadSP : ∀ v, P (finish 1 2 (setSP v s))
  loadHLFromSP : ∀ e8, P (loadHLFromSP e8 s)
  pushPair : ∀ p, P (pushPair p s)
  popPair : ∀ p, P (popPair p s)
  accOperand : ∀ op o, P (accOperand op o s)
  accImm : ∀ op d8, P (accImm op d8 s)
  incOperand : ∀ o, P (incOperand o s)
  decOperand : ∀ o, P (decOperand o s)
  adjust : ∀ r, P (finish 1 1 (putAcc r s))
  flags : ∀ u, P (finish 1 1 (setFlags u s))
  addToHL : ∀ p, P (addToHL p s)
  incPair : ∀ p, P (incPair p s)
  decPair : ∀ p, P (decPair p s)
  addSP : ∀ e8, P (addSP e8 s)
  rotAcc : ∀ op, P (rotAcc op s)
  rotOperand : ∀ op o, P (rotOperand op o s)
  testOperand : ∀ b o, P (testOperand b o s)
  resetOperand : ∀ b o, P (resetOperand b o s)
  setOperand : ∀ b o, P (setOperand b o s)
  call : ∀ target len m, 1 ≤ m → m ≤ 6 → P (callTo target len m s)
  ret : ∀ m, 1 ≤ m → m ≤ 6 → P (returnTo m s)
  reti : P (execReti s)
  illegal : ∀ op ∈ illegalOpcodes, P (raiseUnimplementedOpcode (op.setWidth 16) s)

namespace SharedForms

variable {P : Result → Prop} {s : State}

theorem plain (h : SharedForms P s) (len m : Nat) (h1 : 1 ≤ m) (h6 : m ≤ 6) : P (finish len m s) := h.jump _ m h1 h6

theorem relJumpIf (h : SharedForms P s) (cc : Cond) (e8 : Byte) : P (relJumpIf cc e8 s) := by
  unfold Machine.relJumpIf; split
  · exact h.jump _ 3 (by decide) (by decide)
  · exact h.plain 2 2 (by decide) (by decide)

theorem absJumpIf (h : SharedForms P s) (cc : Cond) (a16 : Word) : P (absJumpIf cc a16 s) := by
  unfold Machine.absJumpIf; split
  · exact h.jump _ 4 (by decide) (by decide)
  · exact h.plain 3 3 (by decide) (by decide)

theorem callIf (h : SharedForms P s) (cc : Cond) (a16 : Word) : P (callIf cc a16 s) := by
  unfold Machine.callIf; split
  · exact h.call _ 3 6 (by decide) (by decide)
  · exact h.plain 3 3 (by decide) (by decide)

theorem returnIf (h : SharedForms P s) (cc : Cond) : P (returnIf cc s) := by
  unfold Machine.returnIf; split
  · exact h.ret 5 (by decide) (by decide)
  · exact h.plain 1 2 (by decide) (by decide)

theorem extended (h : SharedForms P s) (ext : Byte) : P (extended ext s) := by
  unfold Machine.extended; split
  · exact h.rotOperand _ _
  · exact h.testOperand _ _
  · exact h.resetOperand _ _
  · exact h.setOperand _ _

end SharedForms

/-- Every instruction's meaning is a shared operation: what holds of each of those holds of exec. -/
theorem exec_of_shared {P : Result → Prop} {s : State} (h : SharedForms P s) (i : Instr) : P (exec i s) :=
  match i with
  | .ld_BC_d16 _ => h.loadPairImm _ _
  | .ld_B_d8 _ => h.loadImm _ _
  | .ld_atA16_SP _ => h.storeWord _ _
  | .ld_C_d8 _ => h.loadImm _ _
  | .ld_DE_d16 _ => h.loadPairImm _ _
  | .ld_D_d8 _ => h.loadImm _ _
  | .jr_e8 _ => h.jump _ _ (by decide) (by decide)
  | .ld_E_d8 _ => h.loadImm _ _
  | .jr_NZ_e8 _ => h.relJumpIf _ _
  | .ld_HL_d16 _ => h.loadPairImm _ _
  | .ld_H_d8 _ => h.loadImm _ _
  | .jr_Z_e8 _ => h.relJumpIf _ _
  | .ld_L_d8 _ => h.loadImm _ _
  | .jr_NC_e8 _ => h.relJumpIf _ _
  | .ld_SP_d16 _ => h.loadPairImm _ _
  | .ld_atHL_d8 _ => h.storeTo _ _ _ _ (by decide) (by decide)
  | .jr_C_e8 _ => h.relJumpIf _ _
  | .ld_A_d8 _ => h.loadImm _ _
  | .jp_NZ_a16 _ => h.absJumpIf _ _
  | .jp_a16 _ => h.jump _ _ (by decide) (by decide)
  | .call_NZ_a16 _ => h.callIf _ _
  | .add_A_d8 _ => h.accImm _ _
  | .jp_Z_a16 _ => h.absJumpIf _ _
  | .prefix_CB _ => h.extended _
  | .call_Z_a16 _ => h.callIf _ _
  | .call_a16 _ => h.call _ _ _ (by decide) (by decide)
  | .adc_A_d8 _ => h.accImm _ _
  | .jp_NC_a16 _ => h.absJumpIf _ _
  | .call_NC_a16 _ => h.callIf _ _
  | .sub_A_d8 _ => h.accImm _ _
  | .jp_C_a16 _ => h.absJumpIf _ _
  | .call_C_a16 _ => h.callIf _ _
  | .sbc_A_d8 _ => h.accImm _ _
  | .ldh_atA8_A _ => h.storeTo _ _ _ _ (by decide) (by decide)
  | .and_A_d8 _ => h.accImm _ _
  | .add_SP_e8 _ => h.addSP _
  | .ld_atA16_A _ => h.storeTo _ _ _ _ (by decide) (by decide)
  | .xor_A_d8 _ => h.accImm _ _
  | .ldh_A_atA8 _ => h.loadFrom _ _ _ _ (by decide) (by decide)
  | .or_A_d8 _ => h.accImm _ _
  | .ld_HL_SPe8 _ => h.loadHLFromSP _
  | .ld_A_atA16 _ => h.loadFrom _ _ _ _ (by decide) (by decide)
  | .cp_A_d8 _ => h.accImm _ _
  | .nop => h.plain 1 1 (by decide) (by decide)
  | .ld_atBC_A => h.storeTo _ _ _ _ (by decide) (by decide)
  | .inc_BC => h.incPair _
  | .inc_B => h.incOperand _
  | .dec_B => h.decOperand _
  | .rlca => h.rotAcc _
  | .add_HL_BC => h.addToHL _
  | .ld_A_atBC => h.loadFrom _ _ _ _ (by decide) (by decide)
  | .dec_BC => h.decPair _
  | .inc_C => h.incOperand _
  | .dec_C => h.decOperand _
  | .rrca => h.rotAcc _
  | .stop => h.plain 1 1 (by decide) (by decide)
  | .ld_atDE_A => h.storeTo _ _ _ _ (by decide) (by decide)
  | .inc_DE => h.incPair _
  | .inc_D => h.incOperand _
  | .dec_D => h.decOperand _
  | .rla => h.rotAcc _
  | .add_HL_DE => h.addToHL _
  | .ld_A_atDE => h.loadFrom _ _ _ _ (by decide) (by decide)
  | .dec_DE => h.decPair _
  | .inc_E => h.incOperand _
  | .dec_E => h.decOperand _
  | .rra => h.rotAcc _
  | .ld_atHLinc_A => h.storeThenStep _
  | .inc_HL => h.incPair _
  | .inc_H => h.incOperand _
  | .dec_H => h.decOperand _
  | .daa => h.adjust _
  | .add_HL_HL => h.addToHL _
  | .ld_A_atHLinc => h.loadThenStep _
  | .dec_HL => h.decPair _
  | .inc_L => h.incOperand _
  | .dec_L => h.decOperand _
  | .cpl => h.adjust _
  | .ld_atHLdec_A => h.storeThenStep _
  | .inc_SP => h.incPair _
  | .inc_atHL => h.incOperand _
  | .dec_atHL => h.decOperand _
  | .scf => h.flags _
  | .add_HL_SP => h.addToHL _
  | .ld_A_atHLdec => h.loadThenStep _
  | .dec_SP => h.decPair _
  | .inc_A => h.incOperand _
  | .dec_A => h.decOperand _
  | .ccf => h.flags _
  | .ld_B_B => h.loadReg _ _
  | .ld_B_C => h.loadReg _ _
  | .ld_B_D => h.loadReg _ _
  | .ld_B_E => h.loadReg _ _
  | .ld_B_H => h.loadReg _ _
  | .ld_B_L => h.loadReg _ _
  | .ld_B_atHL => h.loadFrom _ _ _ _ (by decide) (by decide)
  | .ld_B_A => h.loadReg _ _
  | .ld_C_B => h.loadReg _ _
  | .ld_C_C => h.loadReg _ _
  | .ld_C_D => h.loadReg _ _
  | .ld_C_E => h.loadReg _ _
  | .ld_C_H => h.loadReg _ _
  | .ld_C_L => h.loadReg _ _
  | .ld_C_atHL => h.loadFrom _ _ _ _ (by decide) (by decide)
  | .ld_C_A => h.loadReg _ _
  | .ld_D_B => h.loadReg _ _
  | .ld_D_C => h.loadReg _ _
  | .ld_D_D => h.loadReg _ _
  | .ld_D_E => h.loadReg _ _
  | .ld_D_H => h.loadReg _ _
  | .ld_D_L => h.loadReg _ _
  | .ld_D_atHL => h.loadFrom _ _ _ _ (by decide) (by decide)
  | .ld_D_A => h.loadReg _ _
  | .ld_E_B => h.loadReg _ _
  | .ld_E_C => h.loadReg _ _
  | .ld_E_D => h.loadReg _ _
  | .ld_E_E => h.loadReg _ _
  | .ld_E_H => h.loadReg _ _
  | .ld_E_L => h.loadReg _ _
  | .ld_E_atHL => h.loadFrom _ _ _ _ (by decide) (by decide)
  | .ld_E_A => h.loadReg _ _
  | .ld_H_B => h.loadReg _ _
  | .ld_H_C => h.loadReg _ _
  | .ld_H_D => h.loadReg _ _
  | .ld_H_E => h.loadReg _ _
  | .ld_H_H => h.loadReg _ _
  | .ld_H_L => h.loadReg _ _
  | .ld_H_atHL => h.loadFrom _ _ _ _ (by decide) (by decide)
  | .ld_H_A => h.loadReg _ _
  | .ld_L_B => h.loadReg _ _
  | .ld_L_C => h.loadReg _ _
  | .ld_L_D => h.loadReg _ _
  | .ld_L_E => h.loadReg _ _
  | .ld_L_H => h.loadReg _ _
  | .ld_L_L => h.loadReg _ _
  | .ld_L_atHL => h.loadFrom _ _ _ _ (by decide) (by decide)
  | .ld_L_A => h.loadReg _ _
  | .ld_atHL_B => h.storeTo _ _ _ _ (by decide) (by decide)
  | .ld_atHL_C => h.storeTo _ _ _ _ (by decide) (by decide)
  | .ld_atHL_D => h.storeTo _ _ _ _ (by decide) (by decide)
  | .ld_atHL_E => h.storeTo _ _ _ _ (by decide) (by decide)
  | .ld_atHL_H => h.storeTo _ _ _ _ (by decide) (by decide)
  | .ld_atHL_L => h.storeTo _ _ _ _ (by decide) (by decide)
  | .halt => h.plain 1 1 (by decide) (by decide)
  | .ld_atHL_A => h.storeTo _ _ _ _ (by decide) (by decide)
  | .ld_A_B => h.loadReg _ _
  | .ld_A_C => h.loadReg _ _
  | .ld_A_D => h.loadReg _ _
  | .ld_A_E => h.loadReg _ _
  | .ld_A_H => h.loadReg _ _
  | .ld_A_L => h.loadReg _ _
  | .ld_A_atHL => h.loadFrom _ _ _ _ (by decide) (by decide)
  | .ld_A_A => h.loadReg _ _
  | .add_A_B => h.accOperand _ _
  | .add_A_C => h.accOperand _ _
  | .add_A_D => h.accOperand _ _
  | .add_A_E => h.accOperand _ _
  | .add_A_H => h.accOperand _ _
  | .add_A_L => h.accOperand _ _
  | .add_A_atHL => h.accOperand _ _
  | .add_A_A => h.accOperand _ _
  | .adc_A_B => h.accOperand _ _
  | .adc_A_C => h.accOperand _ _
  | .adc_A_D => h.accOperand _ _
  | .adc_A_E => h.accOperand _ _
  | .adc_A_H => h.accOperand _ _
  | .adc_A_L => h.accOperand _ _
  | .adc_A_atHL => h.accOperand _ _
  | .adc_A_A => h.accOperand _ _
  | .sub_A_B => h.accOperand _ _
  | .sub_A_C => h.accOperand _ _
  | .sub_A_D => h.accOperand _ _
  | .sub_A_E => h.accOperand _ _
  | .sub_A_H => h.accOperand _ _
  | .sub_A_L => h.accOperand _ _
  | .sub_A_atHL => h.accOperand _ _
  | .sub_A_A => h.accOperand _ _
  | .sbc_A_B => h.accOperand _ _
  | .sbc_A_C => h.accOperand _ _
  | .sbc_A_D => h.accOperand _ _
  | .sbc_A_E => h.accOperand _ _
  | .sbc_A_H => h.accOperand _ _
  | .sbc_A_L => h.accOperand _ _
  | .sbc_A_atHL => h.accOperand _ _
  | .sbc_A_A => h.accOperand _ _
  | .and_A_B => h.accOperand _ _
  | .and_A_C => h.accOperand _ _
  | .and_A_D => h.accOperand _ _
  | .and_A_E => h.accOperand _ _
  | .and_A_H => h.accOperand _ _
  | .and_A_L => h.accOperand _ _
  | .and_A_atHL => h.accOperand _ _
  | .and_A_A => h.accOperand _ _
  | .xor_A_B => h.accOperand _ _
  | .xor_A_C => h.accOperand _ _
  | .xor_A_D => h.accOperand _ _
  | .xor_A_E => h.accOperand _ _
  | .xor_A_H => h.accOperand _ _
  | .xor_A_L => h.accOperand _ _
  | .xor_A_atHL => h.accOperand _ _
  | .xor_A_A => h.accOperand _ _
  | .or_A_B => h.accOperand _ _
  | .or_A_C => h.accOperand _ _
  | .or_A_D => h.accOperand _ _
  | .or_A_E => h.accOperand _ _
  | .or_A_H => h.accOperand _ _
  | .or_A_L => h.accOperand _ _
  | .or_A_atHL => h.accOperand _ _
  | .or_A_A => h.accOperand _ _
  | .cp_A_B => h.accOperand _ _
  | .cp_A_C => h.accOperand _ _
  | .cp_A_D => h.accOperand _ _
  | .cp_A_E => h.accOperand _ _
  | .cp_A_H => h.accOperand _ _
  | .cp_A_L => h.accOperand _ _
  | .cp_A_atHL => h.accOperand _ _
  | .cp_A_A => h.accOperand _ _
  | .ret_NZ => h.returnIf _
  | .pop_BC => h.popPair _
  | .push_BC => h.pushPair _
  | .rst_00H => h.call _ _ _ (by decide) (by decide)
  | .ret_Z => h.returnIf _
  | .ret => h.ret _ (by decide) (by decide)
  | .rst_08H => h.call _ _ _ (by decide) (by decide)
  | .ret_NC => h.returnIf _
  | .pop_DE => h.popPair _
  | .illegal_D3 => h.illegal 0xD3 (by decide)
  | .push_DE => h.pushPair _
  | .rst_10H => h.call _ _ _ (by decide) (by decide)
  | .ret_C => h.returnIf _
  | .reti => h.reti
  | .illegal_DB => h.illegal 0xDB (by decide)
  | .illegal_DD => h.illegal 0xDD (by decide)
  | .rst_18H => h.call _ _ _ (by decide) (by decide)
  | .pop_HL => h.popPair _
  | .ldh_atC_A => h.storeTo _ _ _ _ (by decide) (by decide)
  | .illegal_E3 => h.illegal 0xE3 (by decide)
  | .illegal_E4 => h.illegal 0xE4 (by decide)
  | .push_HL => h.pushPair _
  | .rst_20H => h.call _ _ _ (by decide) (by decide)
  | .jp_HL => h.jump _ _ (by decide) (by decide)
  | .illegal_EB => h.illegal 0xEB (by decide)
  | .illegal_EC => h.illegal 0xEC (by decide)
  | .illegal_ED => h.illegal 0xED (by decide)
  | .rst_28H => h.call _ _ _ (by decide) (by decide)
  | .pop_AF => h.popPair _
  | .ldh_A_atC => h.loadFrom _ _ _ _ (by decide) (by decide)
  | .di => h.ime _
  | .illegal_F4 => h.illegal 0xF4 (by decide)
  | .push_AF => h.pushPair _
  | .rst_30H => h.call _ _ _ (by decide) (by decide)
  | .ld_SP_HL => h.loadSP _
  | .ei => h.ime _
  | .illegal_FC => h.illegal 0xFC (by decide)
  | .illegal_FD => h.illegal 0xFD (by decide)
  | .rst_38H => h.call _ _ _ (by decide) (by decide)
  | .rlc_B => h.rotOperand _ _
  | .rlc_C => h.rotOperand _ _
  | .rlc_D => h.rotOperand _ _
  | .rlc_E => h.rotOperand _ _
  | .rlc_H => h.rotOperand _ _
  | .rlc_L => h.rotOperand _ _
  | .rlc_atHL => h.rotOperand _ _
  | .rlc_A => h.rotOperand _ _
  | .rrc_B => h.rotOperand _ _
  | .rrc_C => h.rotOperand _ _
  | .rrc_D => h.rotOperand _ _
  | .rrc_E => h.rotOperand _ _
  | .rrc_H => h.rotOperand _ _
  | .rrc_L => h.rotOperand _ _
  | .rrc_atHL => h.rotOperand _ _
  | .rrc_A => h.rotOperand _ _
  | .rl_B => h.rotOperand _ _
  | .rl_C => h.rotOperand _ _
  | .rl_D => h.rotOperand _ _
  | .rl_E => h.rotOperand _ _
  | .rl_H => h.rotOperand _ _
  | .rl_L => h.rotOperand _ _
  | .rl_atHL => h.rotOperand _ _
  | .rl_A => h.rotOperand _ _
  | .rr_B => h.rotOperand _ _
  | .rr_C => h.rotOperand _ _
  | .rr_D => h.rotOperand _ _
  | .rr_E => h.rotOperand _ _
  | .rr_H => h.rotOperand _ _
  | .rr_L => h.rotOperand _ _
  | .rr_atHL => h.rotOperand _ _
  | .rr_A => h.rotOperand _ _
  | .sla_B => h.rotOperand _ _
  | .sla_C => h.rotOperand _ _
  | .sla_D => h.rotOperand _ _
  | .sla_E => h.rotOperand _ _
  | .sla_H => h.rotOperand _ _
  | .sla_L => h.rotOperand _ _
  | .sla_atHL => h.rotOperand _ _
  | .sla_A => h.rotOperand _ _
  | .sra_B => h.rotOperand _ _
  | .sra_C => h.rotOperand _ _
  | .sra_D => h.rotOperand _ _
  | .sra_E => h.rotOperand _ _
  | .sra_H => h.rotOperand _ _
  | .sra_L => h.rotOperand _ _
  | .sra_atHL => h.rotOperand _ _
  | .sra_A => h.rotOperand _ _
  | .swap_B => h.rotOperand _ _
  | .swap_C => h.rotOperand _ _
  | .swap_D => h.rotOperand _ _
  | .swap_E => h.rotOperand _ _
  | .swap_H => h.rotOperand _ _
  | .swap_L => h.rotOperand _ _
  | .swap_atHL => h.rotOperand _ _
  | .swap_A => h.rotOperand _ _
  | .srl_B => h.rotOperand _ _
  | .srl_C => h.rotOperand _ _
  | .srl_D => h.rotOperand _ _
  | .srl_E => h.rotOperand _ _
  | .srl_H => h.rotOperand _ _
  | .srl_L => h.rotOperand _ _
  | .srl_atHL => h.rotOperand _ _
  | .srl_A => h.rotOperand _ _
  | .bit_0_B => h.testOperand _ _
  | .bit_0_C => h.testOperand _ _
  | .bit_0_D => h.testOperand _ _
  | .bit_0_E => h.testOperand _ _
  | .bit_0_H => h.testOperand _ _
  | .bit_0_L => h.testOperand _ _
  | .bit_0_atHL => h.testOperand _ _
  | .bit_0_A => h.testOperand _ _
  | .bit_1_B => h.testOperand _ _
  | .bit_1_C => h.testOperand _ _
  | .bit_1_D => h.testOperand _ _
  | .bit_1_E => h.testOperand _ _
  | .bit_1_H => h.testOperand _ _
  | .bit_1_L => h.testOperand _ _
  | .bit_1_atHL => h.testOperand _ _
  | .bit_1_A => h.testOperand _ _
  | .bit_2_B => h.testOperand _ _
  | .bit_2_C => h.testOperand _ _
  | .bit_2_D => h.testOperand _ _
  | .bit_2_E => h.testOperand _ _
  | .bit_2_H => h.testOperand _ _
  | .bit_2_L => h.testOperand _ _
  | .bit_2_atHL => h.testOperand _ _
  | .bit_2_A => h.testOperand _ _
  | .bit_3_B => h.testOperand _ _
  | .bit_3_C => h.testOperand _ _
  | .bit_3_D => h.testOperand _ _
  | .bit_3_E => h.testOperand _ _
  | .bit_3_H => h.testOperand _ _
  | .bit_3_L => h.testOperand _ _
  | .bit_3_atHL => h.testOperand _ _
  | .bit_3_A => h.testOperand _ _
  | .bit_4_B => h.testOperand _ _
  | .bit_4_C => h.testOperand _ _
  | .bit_4_D => h.testOperand _ _
  | .bit_4_E => h.testOperand _ _
  | .bit_4_H => h.testOperand _ _
  | .bit_4_L => h.testOperand _ _
  | .bit_4_atHL => h.testOperand _ _
  | .bit_4_A => h.testOperand _ _
  | .bit_5_B => h.testOperand _ _
  | .bit_5_C => h.testOperand _ _
  | .bit_5_D => h.testOperand _ _
  | .bit_5_E => h.testOperand _ _
  | .bit_5_H => h.testOperand _ _
  | .bit_5_L => h.testOperand _ _
  | .bit_5_atHL => h.testOperand _ _
  | .bit_5_A => h.testOperand _ _
  | .bit_6_B => h.testOperand _ _
  | .bit_6_C => h.testOperand _ _
  | .bit_6_D => h.testOperand _ _
  | .bit_6_E => h.testOperand _ _
  | .bit_6_H => h.testOperand _ _
  | .bit_6_L => h.testOperand _ _
  | .bit_6_atHL => h.testOperand _ _
  | .bit_6_A => h.testOperand _ _
  | .bit_7_B => h.testOperand _ _
  | .bit_7_C => h.testOperand _ _
  | .bit_7_D => h.testOperand _ _
  | .bit_7_E => h.testOperand _ _
  | .bit_7_H => h.testOperand _ _
  | .bit_7_L => h.testOperand _ _
  | .bit_7_atHL => h.testOperand _ _
  | .bit_7_A => h.testOperand _ _
  | .res_0_B => h.resetOperand _ _
  | .res_0_C => h.resetOperand _ _
  | .res_0_D => h.resetOperand _ _
  | .res_0_E => h.resetOperand _ _
  | .res_0_H => h.resetOperand _ _
  | .res_0_L => h.resetOperand _ _
  | .res_0_atHL => h.resetOperand _ _
  | .res_0_A => h.resetOperand _ _
  | .res_1_B => h.resetOperand _ _
  | .res_1_C => h.resetOperand _ _
  | .res_1_D => h.resetOperand _ _
  | .res_1_E => h.resetOperand _ _
  | .res_1_H => h.resetOperand _ _
  | .res_1_L => h.resetOperand _ _
  | .res_1_atHL => h.resetOperand _ _
  | .res_1_A => h.resetOperand _ _
  | .res_2_B => h.resetOperand _ _
  | .res_2_C => h.resetOperand _ _
  | .res_2_D => h.resetOperand _ _
  | .res_2_E => h.resetOperand _ _
  | .res_2_H => h.resetOperand _ _
  | .res_2_L => h.resetOperand _ _
  | .res_2_atHL => h.resetOperand _ _
  | .res_2_A => h.resetOperand _ _
  | .res_3_B => h.resetOperand _ _
  | .res_3_C => h.resetOperand _ _
  | .res_3_D => h.resetOperand _ _
  | .res_3_E => h.resetOperand _ _
  | .res_3_H => h.resetOperand _ _
  | .res_3_L => h.resetOperand _ _
  | .res_3_atHL => h.resetOperand _ _
  | .res_3_A => h.resetOperand _ _
  | .res_4_B => h.resetOperand _ _
  | .res_4_C => h.resetOperand _ _
  | .res_4_D => h.resetOperand _ _
  | .res_4_E => h.resetOperand _ _
  | .res_4_H => h.resetOperand _ _
  | .res_4_L => h.resetOperand _ _
  | .res_4_atHL => h.resetOperand _ _
  | .res_4_A => h.resetOperand _ _
  | .res_5_B => h.resetOperand _ _
  | .res_5_C => h.resetOperand _ _
  | .res_5_D => h.resetOperand _ _
  | .res_5_E => h.resetOperand _ _
  | .res_5_H => h.resetOperand _ _
  | .res_5_L => h.resetOperand _ _
  | .res_5_atHL => h.resetOperand _ _
  | .res_5_A => h.resetOperand _ _
  | .res_6_B => h.resetOperand _ _
  | .res_6_C => h.resetOperand _ _
  | .res_6_D => h.resetOperand _ _
  | .res_6_E => h.resetOperand _ _
  | .res_6_H => h.resetOperand _ _
  | .res_6_L => h.resetOperand _ _
  | .res_6_atHL => h.resetOperand _ _
  | .res_6_A => h.resetOperand _ _
  | .res_7_B => h.resetOperand _ _
  | .res_7_C => h.resetOperand _ _
  | .res_7_D => h.resetOperand _ _
  | .res_7_E => h.resetOperand _ _
  | .res_7_H => h.resetOperand _ _
  | .res_7_L => h.resetOperand _ _
  | .res_7_atHL => h.resetOperand _ _
  | .res_7_A => h.resetOperand _ _
  | .set_0_B => h.setOperand _ _
  | .set_0_C => h.setOperand _ _
  | .set_0_D => h.setOperand _ _
  | .set_0_E => h.setOperand _ _
  | .set_0_H => h.setOperand _ _
  | .set_0_L => h.setOperand _ _
  | .set_0_atHL => h.setOperand _ _
  | .set_0_A => h.setOperand _ _
  | .set_1_B => h.setOperand _ _
  | .set_1_C => h.setOperand _ _
  | .set_1_D => h.setOperand _ _
  | .set_1_E => h.setOperand _ _
  | .set_1_H => h.setOperand _ _
  | .set_1_L => h.setOperand _ _
  | .set_1_atHL => h.setOperand _ _
  | .set_1_A => h.setOperand _ _
  | .set_2_B => h.setOperand _ _
  | .set_2_C => h.setOperand _ _
  | .set_2_D => h.setOperand _ _
  | .set_2_E => h.setOperand _ _
  | .set_2_H => h.setOperand _ _
  | .set_2_L => h.setOperand _ _
  | .set_2_atHL => h.setOperand _ _
  | .set_2_A => h.setOperand _ _
  | .set_3_B => h.setOperand _ _
  | .set_3_C => h.setOperand _ _
  | .set_3_D => h.setOperand _ _
  | .set_3_E => h.setOperand _ _
  | .set_3_H => h.setOperand _ _
  | .set_3_L => h.setOperand _ _
  | .set_3_atHL => h.setOperand _ _
  | .set_3_A => h.setOperand _ _
  | .set_4_B => h.setOperand _ _
  | .set_4_C => h.setOperand _ _
  | .set_4_D => h.setOperand _ _
  | .set_4_E => h.setOperand _ _
  | .set_4_H => h.setOperand _ _
  | .set_4_L => h.setOperand _ _
  | .set_4_atHL => h.setOperand _ _
  | .set_4_A => h.setOperand _ _
  | .set_5_B => h.setOperand _ _
  | .set_5_C => h.setOperand _ _
  | .set_5_D => h.setOperand _ _
  | .set_5_E => h.setOperand _ _
  | .set_5_H => h.setOperand _ _
  | .set_5_L => h.setOperand _ _
  | .set_5_atHL => h.setOperand _ _
  | .set_5_A => h.setOperand _ _
  | .set_6_B => h.setOperand _ _
  | .set_6_C => h.setOperand _ _
  | .set_6_D => h.setOperand _ _
  | .set_6_E => h.setOperand _ _
  | .set_6_H => h.setOperand _ _
  | .set_6_L => h.setOperand _ _
  | .set_6_atHL => h.setOperand _ _
  | .set_6_A => h.setOperand _ _
  | .set_7_B => h.setOperand _ _
  | .set_7_C => h.setOperand _ _
  | .set_7_D => h.setOperand _ _
  | .set_7_E => h.setOperand _ _
  | .set_7_H => h.setOperand _ _
  | .set_7_L => h.setOperand _ _
  | .set_7_atHL => h.setOperand _ _
  | .set_7_A => h.setOperand _ _

end Sys2Proof.Machine
end

