-- ==== Sys2Proof/Laws/Gpu.lean ====
section
/-! SUPPORT. Laws of the GPU: everything one advance can do, and what rendering leaves alone. -/

namespace Sys2Proof.Machine

/-- A pixel's write keeps the framebuffer's good form. -/
theorem writePixel_ok {size o : Nat} {fb : Memory} (i : Byte) (ho : o + 3 < size)
    (h : (Memory.wf fb && Memory.inBounds size fb) = true) :
    (Memory.wf (writePixel fb o i) && Memory.inBounds size (writePixel fb o i)) = true :=
  memSet_ok _ ho (memSet_ok _ (by omega) (memSet_ok _ (by omega) (memSet_ok _ (by omega) h)))

/-- A pixel's write leaves every byte outside its four alone. -/
theorem writePixel_ne {o k : Nat} (fb : Memory) (i : Byte) (h : k < o ∨ o + 3 < k) :
    memGet (writePixel fb o i) k = memGet fb k := by
  unfold writePixel
  rw [memGet_memSet_ne _ _ (by omega), memGet_memSet_ne _ _ (by omega), memGet_memSet_ne _ _ (by omega),
    memGet_memSet_ne _ _ (by omega)]

/-- Rendering a visible line keeps the framebuffer's good form (60_exceptions.md R262). -/
theorem renderPixels_ok {g : Gpu} (n : Nat) (hn : n ≤ 160) (hly : g.ly.toNat ≤ 143)
    (h : (Memory.wf g.fb && Memory.inBounds Config.fbSize g.fb) = true) :
    (Memory.wf (renderPixels g n) && Memory.inBounds Config.fbSize (renderPixels g n)) = true := by
  induction n with
  | zero => exact h
  | succ n ih =>
    refine writePixel_ok _ ?_ (ih (by omega))
    show (g.ly.toNat * 160 + n) * 4 + 3 < 92160
    omega

/-- Rendering leaves every byte outside the scanline alone. -/
theorem renderPixels_ne {g : Gpu} (n k : Nat) (h : k < g.ly.toNat * 640 ∨ g.ly.toNat * 640 + 4 * n ≤ k) :
    memGet (renderPixels g n) k = memGet g.fb k := by
  induction n with
  | zero => rfl
  | succ n ih => rw [renderPixels, writePixel_ne _ _ (by omega), ih (by omega)]

/-- Rendering changes only the framebuffer (60_exceptions.md R260: "The routine reads state and writes only `fb`"). -/
theorem renderScan_eq (g : Gpu) : renderScan g = { g with fb := (renderScan g).fb } := by
  unfold renderScan
  generalize renderPixels g 160 = fb
  split <;> rfl

/-- Everything a GPU advance can do (60_exceptions.md R255): the clock runs, or the mode ends in one of four ways. -/
theorem gpuExecute_cases (ticks : Nat) (g : Gpu) :
    (g.clock + ticks < modeTicks g.mode ∧ gpuExecute ticks g = { g with clock := g.clock + ticks }) ∨
    (modeTicks g.mode ≤ g.clock + ticks ∧
      ((g.mode = .oamScan ∧ gpuExecute ticks g = { g with clock := 0, mode := .vramScan }) ∨
       (g.mode = .vramScan ∧ gpuExecute ticks g = renderScan { g with clock := 0, mode := .hblank }) ∨
       (g.mode = .hblank ∧
         gpuExecute ticks g = { g with clock := 0, ly := g.ly + 1, mode := if g.ly + 1 = 143 then .vblank else .oamScan }) ∨
       (g.mode = .vblank ∧ 153 < (g.ly + 1).toNat ∧ gpuExecute ticks g = { g with clock := 0, ly := 0, mode := .oamScan }) ∨
       (g.mode = .vblank ∧ (g.ly + 1).toNat ≤ 153 ∧ gpuExecute ticks g = { g with clock := 0, ly := g.ly + 1 }))) := by
  unfold gpuExecute
  cases hm : g.mode <;> simp only [modeTicks] <;> split
  all_goals first
    | (refine .inr ⟨by assumption, ?_⟩; simp; done)
    | (refine .inl ⟨by omega, ?_⟩; rfl)
    | skip
  all_goals refine .inr ⟨by assumption, ?_⟩
  all_goals simp only [reduceCtorEq, false_and, true_and, false_or]
  split
  · exact .inl ⟨by assumption, rfl⟩
  · exact .inr ⟨by omega, rfl⟩

end Sys2Proof.Machine
end

