-- ==== Sys2Proof/Tests/Slice0.lean ====
section
/-! SUPPORT. The model's own tests: the well-formedness check, every opcode's word, the spec's vectors (95_test_vectors.md; v<n> is the
vector on that file's line n), and, for each statement with hypotheses, a state and operands that meet them. -/

namespace Sys2Proof.Tests

open Sys2Proof.Machine

set_option Elab.async false

/-- The machine of 95_test_vectors.md: the reset state with `INBIOS_RESET` 0 and an empty boot ROM. -/
def start : State :=
  { cpu := Cpu.reset
    mmu := { inBios := false, boot := [], rom := [], eram := [], wram := [], zram := [] }
    gpu := Gpu.reset, cycles := 0, draws := 0 }

/-- One machine step from `s` with the bytes loaded at ROM offset 0; what `see` sees of the next state, none at a stop. -/
def after {α : Type} (bytes : List Byte) (s : State) (see : State → α) : Option α :=
  match step (s.load bytes) with
  | .next t => some (see t)
  | .fault _ => none
  | .refused _ => none

/-- What `see` sees of the state after an instruction, none at a stop. -/
def does {α : Type} (i : Instr) (s : State) (see : State → α) : Option α :=
  match exec i s with
  | .next t => some (see t)
  | .fault _ => none
  | .refused _ => none

/-- The bytes decode to the instruction, with none left, and are its encoding. -/
def isWord (row : List Byte × Instr) : Bool :=
  match decode row.1 with
  | .ok (i, []) => i == row.2 && encode row.2 == row.1
  | .ok _ => false
  | .error _ => false

/-! ### Well-formedness -/

/-- The prefix byte is no instruction (47_misc_control.md R215): the one ill-formed term is refused, whatever its byte. -/
theorem test_wf_refuses_prefix : (Instr.prefix_CB 0x00).wf = false ∧ (Instr.prefix_CB 0xFF).wf = false := by decide

/-- Its neighbours are not refused. -/
theorem test_wf_accepts : Instr.nop.wf = true ∧ Instr.rlc_B.wf = true ∧ (Instr.call_a16 0xFFFF).wf = true := by decide

/-! ### Every row of the opcode table: its word, written out from 30_encoding.md R73 and R76 -/

theorem test_words_00 : List.all [
    ([0x00], .nop), ([0x01, 0x34, 0x12], .ld_BC_d16 0x1234), ([0x02], .ld_atBC_A), ([0x03], .inc_BC), ([0x04], .inc_B),
    ([0x05], .dec_B), ([0x06, 0x9A], .ld_B_d8 0x9A), ([0x07], .rlca), ([0x08, 0x34, 0x12], .ld_atA16_SP 0x1234),
    ([0x09], .add_HL_BC), ([0x0A], .ld_A_atBC), ([0x0B], .dec_BC), ([0x0C], .inc_C), ([0x0D], .dec_C),
    ([0x0E, 0x9A], .ld_C_d8 0x9A), ([0x0F], .rrca)] isWord = true := by decide +kernel

theorem test_words_10 : List.all [
    ([0x10], .stop), ([0x11, 0x34, 0x12], .ld_DE_d16 0x1234), ([0x12], .ld_atDE_A), ([0x13], .inc_DE), ([0x14], .inc_D),
    ([0x15], .dec_D), ([0x16, 0x9A], .ld_D_d8 0x9A), ([0x17], .rla), ([0x18, 0x9A], .jr_e8 0x9A), ([0x19], .add_HL_DE),
    ([0x1A], .ld_A_atDE), ([0x1B], .dec_DE), ([0x1C], .inc_E), ([0x1D], .dec_E), ([0x1E, 0x9A], .ld_E_d8 0x9A), ([0x1F], .rra)] isWord = true := by decide +kernel

theorem test_words_20 : List.all [
    ([0x20, 0x9A], .jr_NZ_e8 0x9A), ([0x21, 0x34, 0x12], .ld_HL_d16 0x1234), ([0x22], .ld_atHLinc_A), ([0x23], .inc_HL),
    ([0x24], .inc_H), ([0x25], .dec_H), ([0x26, 0x9A], .ld_H_d8 0x9A), ([0x27], .daa), ([0x28, 0x9A], .jr_Z_e8 0x9A),
    ([0x29], .add_HL_HL), ([0x2A], .ld_A_atHLinc), ([0x2B], .dec_HL), ([0x2C], .inc_L), ([0x2D], .dec_L),
    ([0x2E, 0x9A], .ld_L_d8 0x9A), ([0x2F], .cpl)] isWord = true := by decide +kernel

theorem test_words_30 : List.all [
    ([0x30, 0x9A], .jr_NC_e8 0x9A), ([0x31, 0x34, 0x12], .ld_SP_d16 0x1234), ([0x32], .ld_atHLdec_A), ([0x33], .inc_SP),
    ([0x34], .inc_atHL), ([0x35], .dec_atHL), ([0x36, 0x9A], .ld_atHL_d8 0x9A), ([0x37], .scf), ([0x38, 0x9A], .jr_C_e8 0x9A),
    ([0x39], .add_HL_SP), ([0x3A], .ld_A_atHLdec), ([0x3B], .dec_SP), ([0x3C], .inc_A), ([0x3D], .dec_A),
    ([0x3E, 0x9A], .ld_A_d8 0x9A), ([0x3F], .ccf)] isWord = true := by decide +kernel

theorem test_words_40 : List.all [
    ([0x40], .ld_B_B), ([0x41], .ld_B_C), ([0x42], .ld_B_D), ([0x43], .ld_B_E), ([0x44], .ld_B_H), ([0x45], .ld_B_L),
    ([0x46], .ld_B_atHL), ([0x47], .ld_B_A), ([0x48], .ld_C_B), ([0x49], .ld_C_C), ([0x4A], .ld_C_D), ([0x4B], .ld_C_E),
    ([0x4C], .ld_C_H), ([0x4D], .ld_C_L), ([0x4E], .ld_C_atHL), ([0x4F], .ld_C_A)] isWord = true := by decide +kernel

theorem test_words_50 : List.all [
    ([0x50], .ld_D_B), ([0x51], .ld_D_C), ([0x52], .ld_D_D), ([0x53], .ld_D_E), ([0x54], .ld_D_H), ([0x55], .ld_D_L),
    ([0x56], .ld_D_atHL), ([0x57], .ld_D_A), ([0x58], .ld_E_B), ([0x59], .ld_E_C), ([0x5A], .ld_E_D), ([0x5B], .ld_E_E),
    ([0x5C], .ld_E_H), ([0x5D], .ld_E_L), ([0x5E], .ld_E_atHL), ([0x5F], .ld_E_A)] isWord = true := by decide +kernel

theorem test_words_60 : List.all [
    ([0x60], .ld_H_B), ([0x61], .ld_H_C), ([0x62], .ld_H_D), ([0x63], .ld_H_E), ([0x64], .ld_H_H), ([0x65], .ld_H_L),
    ([0x66], .ld_H_atHL), ([0x67], .ld_H_A), ([0x68], .ld_L_B), ([0x69], .ld_L_C), ([0x6A], .ld_L_D), ([0x6B], .ld_L_E),
    ([0x6C], .ld_L_H), ([0x6D], .ld_L_L), ([0x6E], .ld_L_atHL), ([0x6F], .ld_L_A)] isWord = true := by decide +kernel

theorem test_words_70 : List.all [
    ([0x70], .ld_atHL_B), ([0x71], .ld_atHL_C), ([0x72], .ld_atHL_D), ([0x73], .ld_atHL_E), ([0x74], .ld_atHL_H),
    ([0x75], .ld_atHL_L), ([0x76], .halt), ([0x77], .ld_atHL_A), ([0x78], .ld_A_B), ([0x79], .ld_A_C), ([0x7A], .ld_A_D),
    ([0x7B], .ld_A_E), ([0x7C], .ld_A_H), ([0x7D], .ld_A_L), ([0x7E], .ld_A_atHL), ([0x7F], .ld_A_A)] isWord = true := by decide +kernel

theorem test_words_80 : List.all [
    ([0x80], .add_A_B), ([0x81], .add_A_C), ([0x82], .add_A_D), ([0x83], .add_A_E), ([0x84], .add_A_H), ([0x85], .add_A_L),
    ([0x86], .add_A_atHL), ([0x87], .add_A_A), ([0x88], .adc_A_B), ([0x89], .adc_A_C), ([0x8A], .adc_A_D), ([0x8B], .adc_A_E),
    ([0x8C], .adc_A_H), ([0x8D], .adc_A_L), ([0x8E], .adc_A_atHL), ([0x8F], .adc_A_A)] isWord = true := by decide +kernel

theorem test_words_90 : List.all [
    ([0x90], .sub_A_B), ([0x91], .sub_A_C), ([0x92], .sub_A_D), ([0x93], .sub_A_E), ([0x94], .sub_A_H), ([0x95], .sub_A_L),
    ([0x96], .sub_A_atHL), ([0x97], .sub_A_A), ([0x98], .sbc_A_B), ([0x99], .sbc_A_C), ([0x9A], .sbc_A_D), ([0x9B], .sbc_A_E),
    ([0x9C], .sbc_A_H), ([0x9D], .sbc_A_L), ([0x9E], .sbc_A_atHL), ([0x9F], .sbc_A_A)] isWord = true := by decide +kernel

theorem test_words_A0 : List.all [
    ([0xA0], .and_A_B), ([0xA1], .and_A_C), ([0xA2], .and_A_D), ([0xA3], .and_A_E), ([0xA4], .and_A_H), ([0xA5], .and_A_L),
    ([0xA6], .and_A_atHL), ([0xA7], .and_A_A), ([0xA8], .xor_A_B), ([0xA9], .xor_A_C), ([0xAA], .xor_A_D), ([0xAB], .xor_A_E),
    ([0xAC], .xor_A_H), ([0xAD], .xor_A_L), ([0xAE], .xor_A_atHL), ([0xAF], .xor_A_A)] isWord = true := by decide +kernel

theorem test_words_B0 : List.all [
    ([0xB0], .or_A_B), ([0xB1], .or_A_C), ([0xB2], .or_A_D), ([0xB3], .or_A_E), ([0xB4], .or_A_H), ([0xB5], .or_A_L),
    ([0xB6], .or_A_atHL), ([0xB7], .or_A_A), ([0xB8], .cp_A_B), ([0xB9], .cp_A_C), ([0xBA], .cp_A_D), ([0xBB], .cp_A_E),
    ([0xBC], .cp_A_H), ([0xBD], .cp_A_L), ([0xBE], .cp_A_atHL), ([0xBF], .cp_A_A)] isWord = true := by decide +kernel

theorem test_words_C0 : List.all [
    ([0xC0], .ret_NZ), ([0xC1], .pop_BC), ([0xC2, 0x34, 0x12], .jp_NZ_a16 0x1234), ([0xC3, 0x34, 0x12], .jp_a16 0x1234),
    ([0xC4, 0x34, 0x12], .call_NZ_a16 0x1234), ([0xC5], .push_BC), ([0xC6, 0x9A], .add_A_d8 0x9A), ([0xC7], .rst_00H),
    ([0xC8], .ret_Z), ([0xC9], .ret), ([0xCA, 0x34, 0x12], .jp_Z_a16 0x1234), ([0xCC, 0x34, 0x12], .call_Z_a16 0x1234),
    ([0xCD, 0x34, 0x12], .call_a16 0x1234), ([0xCE, 0x9A], .adc_A_d8 0x9A), ([0xCF], .rst_08H)] isWord = true := by decide +kernel

theorem test_words_D0 : List.all [
    ([0xD0], .ret_NC), ([0xD1], .pop_DE), ([0xD2, 0x34, 0x12], .jp_NC_a16 0x1234), ([0xD3], .illegal_D3),
    ([0xD4, 0x34, 0x12], .call_NC_a16 0x1234), ([0xD5], .push_DE), ([0xD6, 0x9A], .sub_A_d8 0x9A), ([0xD7], .rst_10H),
    ([0xD8], .ret_C), ([0xD9], .reti), ([0xDA, 0x34, 0x12], .jp_C_a16 0x1234), ([0xDB], .illegal_DB),
    ([0xDC, 0x34, 0x12], .call_C_a16 0x1234), ([0xDD], .illegal_DD), ([0xDE, 0x9A], .sbc_A_d8 0x9A), ([0xDF], .rst_18H)] isWord = true := by decide +kernel

theorem test_words_E0 : List.all [
    ([0xE0, 0x9A], .ldh_atA8_A 0x9A), ([0xE1], .pop_HL), ([0xE2], .ldh_atC_A), ([0xE3], .illegal_E3), ([0xE4], .illegal_E4),
    ([0xE5], .push_HL), ([0xE6, 0x9A], .and_A_d8 0x9A), ([0xE7], .rst_20H), ([0xE8, 0x9A], .add_SP_e8 0x9A), ([0xE9], .jp_HL),
    ([0xEA, 0x34, 0x12], .ld_atA16_A 0x1234), ([0xEB], .illegal_EB), ([0xEC], .illegal_EC), ([0xED], .illegal_ED),
    ([0xEE, 0x9A], .xor_A_d8 0x9A), ([0xEF], .rst_28H)] isWord = true := by decide +kernel

theorem test_words_F0 : List.all [
    ([0xF0, 0x9A], .ldh_A_atA8 0x9A), ([0xF1], .pop_AF), ([0xF2], .ldh_A_atC), ([0xF3], .di), ([0xF4], .illegal_F4),
    ([0xF5], .push_AF), ([0xF6, 0x9A], .or_A_d8 0x9A), ([0xF7], .rst_30H), ([0xF8, 0x9A], .ld_HL_SPe8 0x9A), ([0xF9], .ld_SP_HL),
    ([0xFA, 0x34, 0x12], .ld_A_atA16 0x1234), ([0xFB], .ei), ([0xFC], .illegal_FC), ([0xFD], .illegal_FD),
    ([0xFE, 0x9A], .cp_A_d8 0x9A), ([0xFF], .rst_38H)] isWord = true := by decide +kernel

theorem test_words_CB00 : List.all [
    ([0xCB, 0x00], .rlc_B), ([0xCB, 0x01], .rlc_C), ([0xCB, 0x02], .rlc_D), ([0xCB, 0x03], .rlc_E), ([0xCB, 0x04], .rlc_H),
    ([0xCB, 0x05], .rlc_L), ([0xCB, 0x06], .rlc_atHL), ([0xCB, 0x07], .rlc_A), ([0xCB, 0x08], .rrc_B), ([0xCB, 0x09], .rrc_C),
    ([0xCB, 0x0A], .rrc_D), ([0xCB, 0x0B], .rrc_E), ([0xCB, 0x0C], .rrc_H), ([0xCB, 0x0D], .rrc_L), ([0xCB, 0x0E], .rrc_atHL),
    ([0xCB, 0x0F], .rrc_A)] isWord = true := by decide +kernel

theorem test_words_CB10 : List.all [
    ([0xCB, 0x10], .rl_B), ([0xCB, 0x11], .rl_C), ([0xCB, 0x12], .rl_D), ([0xCB, 0x13], .rl_E), ([0xCB, 0x14], .rl_H),
    ([0xCB, 0x15], .rl_L), ([0xCB, 0x16], .rl_atHL), ([0xCB, 0x17], .rl_A), ([0xCB, 0x18], .rr_B), ([0xCB, 0x19], .rr_C),
    ([0xCB, 0x1A], .rr_D), ([0xCB, 0x1B], .rr_E), ([0xCB, 0x1C], .rr_H), ([0xCB, 0x1D], .rr_L), ([0xCB, 0x1E], .rr_atHL),
    ([0xCB, 0x1F], .rr_A)] isWord = true := by decide +kernel

theorem test_words_CB20 : List.all [
    ([0xCB, 0x20], .sla_B), ([0xCB, 0x21], .sla_C), ([0xCB, 0x22], .sla_D), ([0xCB, 0x23], .sla_E), ([0xCB, 0x24], .sla_H),
    ([0xCB, 0x25], .sla_L), ([0xCB, 0x26], .sla_atHL), ([0xCB, 0x27], .sla_A), ([0xCB, 0x28], .sra_B), ([0xCB, 0x29], .sra_C),
    ([0xCB, 0x2A], .sra_D), ([0xCB, 0x2B], .sra_E), ([0xCB, 0x2C], .sra_H), ([0xCB, 0x2D], .sra_L), ([0xCB, 0x2E], .sra_atHL),
    ([0xCB, 0x2F], .sra_A)] isWord = true := by decide +kernel

theorem test_words_CB30 : List.all [
    ([0xCB, 0x30], .swap_B), ([0xCB, 0x31], .swap_C), ([0xCB, 0x32], .swap_D), ([0xCB, 0x33], .swap_E), ([0xCB, 0x34], .swap_H),
    ([0xCB, 0x35], .swap_L), ([0xCB, 0x36], .swap_atHL), ([0xCB, 0x37], .swap_A), ([0xCB, 0x38], .srl_B), ([0xCB, 0x39], .srl_C),
    ([0xCB, 0x3A], .srl_D), ([0xCB, 0x3B], .srl_E), ([0xCB, 0x3C], .srl_H), ([0xCB, 0x3D], .srl_L), ([0xCB, 0x3E], .srl_atHL),
    ([0xCB, 0x3F], .srl_A)] isWord = true := by decide +kernel

theorem test_words_CB40 : List.all [
    ([0xCB, 0x40], .bit_0_B), ([0xCB, 0x41], .bit_0_C), ([0xCB, 0x42], .bit_0_D), ([0xCB, 0x43], .bit_0_E),
    ([0xCB, 0x44], .bit_0_H), ([0xCB, 0x45], .bit_0_L), ([0xCB, 0x46], .bit_0_atHL), ([0xCB, 0x47], .bit_0_A),
    ([0xCB, 0x48], .bit_1_B), ([0xCB, 0x49], .bit_1_C), ([0xCB, 0x4A], .bit_1_D), ([0xCB, 0x4B], .bit_1_E),
    ([0xCB, 0x4C], .bit_1_H), ([0xCB, 0x4D], .bit_1_L), ([0xCB, 0x4E], .bit_1_atHL), ([0xCB, 0x4F], .bit_1_A)] isWord = true := by decide +kernel

theorem test_words_CB50 : List.all [
    ([0xCB, 0x50], .bit_2_B), ([0xCB, 0x51], .bit_2_C), ([0xCB, 0x52], .bit_2_D), ([0xCB, 0x53], .bit_2_E),
    ([0xCB, 0x54], .bit_2_H), ([0xCB, 0x55], .bit_2_L), ([0xCB, 0x56], .bit_2_atHL), ([0xCB, 0x57], .bit_2_A),
    ([0xCB, 0x58], .bit_3_B), ([0xCB, 0x59], .bit_3_C), ([0xCB, 0x5A], .bit_3_D), ([0xCB, 0x5B], .bit_3_E),
    ([0xCB, 0x5C], .bit_3_H), ([0xCB, 0x5D], .bit_3_L), ([0xCB, 0x5E], .bit_3_atHL), ([0xCB, 0x5F], .bit_3_A)] isWord = true := by decide +kernel

theorem test_words_CB60 : List.all [
    ([0xCB, 0x60], .bit_4_B), ([0xCB, 0x61], .bit_4_C), ([0xCB, 0x62], .bit_4_D), ([0xCB, 0x63], .bit_4_E),
    ([0xCB, 0x64], .bit_4_H), ([0xCB, 0x65], .bit_4_L), ([0xCB, 0x66], .bit_4_atHL), ([0xCB, 0x67], .bit_4_A),
    ([0xCB, 0x68], .bit_5_B), ([0xCB, 0x69], .bit_5_C), ([0xCB, 0x6A], .bit_5_D), ([0xCB, 0x6B], .bit_5_E),
    ([0xCB, 0x6C], .bit_5_H), ([0xCB, 0x6D], .bit_5_L), ([0xCB, 0x6E], .bit_5_atHL), ([0xCB, 0x6F], .bit_5_A)] isWord = true := by decide +kernel

theorem test_words_CB70 : List.all [
    ([0xCB, 0x70], .bit_6_B), ([0xCB, 0x71], .bit_6_C), ([0xCB, 0x72], .bit_6_D), ([0xCB, 0x73], .bit_6_E),
    ([0xCB, 0x74], .bit_6_H), ([0xCB, 0x75], .bit_6_L), ([0xCB, 0x76], .bit_6_atHL), ([0xCB, 0x77], .bit_6_A),
    ([0xCB, 0x78], .bit_7_B), ([0xCB, 0x79], .bit_7_C), ([0xCB, 0x7A], .bit_7_D), ([0xCB, 0x7B], .bit_7_E),
    ([0xCB, 0x7C], .bit_7_H), ([0xCB, 0x7D], .bit_7_L), ([0xCB, 0x7E], .bit_7_atHL), ([0xCB, 0x7F], .bit_7_A)] isWord = true := by decide +kernel

theorem test_words_CB80 : List.all [
    ([0xCB, 0x80], .res_0_B), ([0xCB, 0x81], .res_0_C), ([0xCB, 0x82], .res_0_D), ([0xCB, 0x83], .res_0_E),
    ([0xCB, 0x84], .res_0_H), ([0xCB, 0x85], .res_0_L), ([0xCB, 0x86], .res_0_atHL), ([0xCB, 0x87], .res_0_A),
    ([0xCB, 0x88], .res_1_B), ([0xCB, 0x89], .res_1_C), ([0xCB, 0x8A], .res_1_D), ([0xCB, 0x8B], .res_1_E),
    ([0xCB, 0x8C], .res_1_H), ([0xCB, 0x8D], .res_1_L), ([0xCB, 0x8E], .res_1_atHL), ([0xCB, 0x8F], .res_1_A)] isWord = true := by decide +kernel

theorem test_words_CB90 : List.all [
    ([0xCB, 0x90], .res_2_B), ([0xCB, 0x91], .res_2_C), ([0xCB, 0x92], .res_2_D), ([0xCB, 0x93], .res_2_E),
    ([0xCB, 0x94], .res_2_H), ([0xCB, 0x95], .res_2_L), ([0xCB, 0x96], .res_2_atHL), ([0xCB, 0x97], .res_2_A),
    ([0xCB, 0x98], .res_3_B), ([0xCB, 0x99], .res_3_C), ([0xCB, 0x9A], .res_3_D), ([0xCB, 0x9B], .res_3_E),
    ([0xCB, 0x9C], .res_3_H), ([0xCB, 0x9D], .res_3_L), ([0xCB, 0x9E], .res_3_atHL), ([0xCB, 0x9F], .res_3_A)] isWord = true := by decide +kernel

theorem test_words_CBA0 : List.all [
    ([0xCB, 0xA0], .res_4_B), ([0xCB, 0xA1], .res_4_C), ([0xCB, 0xA2], .res_4_D), ([0xCB, 0xA3], .res_4_E),
    ([0xCB, 0xA4], .res_4_H), ([0xCB, 0xA5], .res_4_L), ([0xCB, 0xA6], .res_4_atHL), ([0xCB, 0xA7], .res_4_A),
    ([0xCB, 0xA8], .res_5_B), ([0xCB, 0xA9], .res_5_C), ([0xCB, 0xAA], .res_5_D), ([0xCB, 0xAB], .res_5_E),
    ([0xCB, 0xAC], .res_5_H), ([0xCB, 0xAD], .res_5_L), ([0xCB, 0xAE], .res_5_atHL), ([0xCB, 0xAF], .res_5_A)] isWord = true := by decide +kernel

theorem test_words_CBB0 : List.all [
    ([0xCB, 0xB0], .res_6_B), ([0xCB, 0xB1], .res_6_C), ([0xCB, 0xB2], .res_6_D), ([0xCB, 0xB3], .res_6_E),
    ([0xCB, 0xB4], .res_6_H), ([0xCB, 0xB5], .res_6_L), ([0xCB, 0xB6], .res_6_atHL), ([0xCB, 0xB7], .res_6_A),
    ([0xCB, 0xB8], .res_7_B), ([0xCB, 0xB9], .res_7_C), ([0xCB, 0xBA], .res_7_D), ([0xCB, 0xBB], .res_7_E),
    ([0xCB, 0xBC], .res_7_H), ([0xCB, 0xBD], .res_7_L), ([0xCB, 0xBE], .res_7_atHL), ([0xCB, 0xBF], .res_7_A)] isWord = true := by decide +kernel

theorem test_words_CBC0 : List.all [
    ([0xCB, 0xC0], .set_0_B), ([0xCB, 0xC1], .set_0_C), ([0xCB, 0xC2], .set_0_D), ([0xCB, 0xC3], .set_0_E),
    ([0xCB, 0xC4], .set_0_H), ([0xCB, 0xC5], .set_0_L), ([0xCB, 0xC6], .set_0_atHL), ([0xCB, 0xC7], .set_0_A),
    ([0xCB, 0xC8], .set_1_B), ([0xCB, 0xC9], .set_1_C), ([0xCB, 0xCA], .set_1_D), ([0xCB, 0xCB], .set_1_E),
    ([0xCB, 0xCC], .set_1_H), ([0xCB, 0xCD], .set_1_L), ([0xCB, 0xCE], .set_1_atHL), ([0xCB, 0xCF], .set_1_A)] isWord = true := by decide +kernel

theorem test_words_CBD0 : List.all [
    ([0xCB, 0xD0], .set_2_B), ([0xCB, 0xD1], .set_2_C), ([0xCB, 0xD2], .set_2_D), ([0xCB, 0xD3], .set_2_E),
    ([0xCB, 0xD4], .set_2_H), ([0xCB, 0xD5], .set_2_L), ([0xCB, 0xD6], .set_2_atHL), ([0xCB, 0xD7], .set_2_A),
    ([0xCB, 0xD8], .set_3_B), ([0xCB, 0xD9], .set_3_C), ([0xCB, 0xDA], .set_3_D), ([0xCB, 0xDB], .set_3_E),
    ([0xCB, 0xDC], .set_3_H), ([0xCB, 0xDD], .set_3_L), ([0xCB, 0xDE], .set_3_atHL), ([0xCB, 0xDF], .set_3_A)] isWord = true := by decide +kernel

theorem test_words_CBE0 : List.all [
    ([0xCB, 0xE0], .set_4_B), ([0xCB, 0xE1], .set_4_C), ([0xCB, 0xE2], .set_4_D), ([0xCB, 0xE3], .set_4_E),
    ([0xCB, 0xE4], .set_4_H), ([0xCB, 0xE5], .set_4_L), ([0xCB, 0xE6], .set_4_atHL), ([0xCB, 0xE7], .set_4_A),
    ([0xCB, 0xE8], .set_5_B), ([0xCB, 0xE9], .set_5_C), ([0xCB, 0xEA], .set_5_D), ([0xCB, 0xEB], .set_5_E),
    ([0xCB, 0xEC], .set_5_H), ([0xCB, 0xED], .set_5_L), ([0xCB, 0xEE], .set_5_atHL), ([0xCB, 0xEF], .set_5_A)] isWord = true := by decide +kernel

theorem test_words_CBF0 : List.all [
    ([0xCB, 0xF0], .set_6_B), ([0xCB, 0xF1], .set_6_C), ([0xCB, 0xF2], .set_6_D), ([0xCB, 0xF3], .set_6_E),
    ([0xCB, 0xF4], .set_6_H), ([0xCB, 0xF5], .set_6_L), ([0xCB, 0xF6], .set_6_atHL), ([0xCB, 0xF7], .set_6_A),
    ([0xCB, 0xF8], .set_7_B), ([0xCB, 0xF9], .set_7_C), ([0xCB, 0xFA], .set_7_D), ([0xCB, 0xFB], .set_7_E),
    ([0xCB, 0xFC], .set_7_H), ([0xCB, 0xFD], .set_7_L), ([0xCB, 0xFE], .set_7_atHL), ([0xCB, 0xFF], .set_7_A)] isWord = true := by decide +kernel

/-- A byte list that ends too early is refused, and only then. -/
theorem test_decode_truncated :
    (match decode [0xC3, 0x50] with | .error (.truncated b) => b | _ => 0) = 0xC3 ∧
    (match decode [0xCB] with | .error (.truncated b) => b | _ => 0) = 0xCB := by decide +kernel

/-- The opcode table's own numbers: an extended row's is its key, the prefix the high byte; another row's counts from byte 0's bit 0. -/
theorem test_table_words :
    decodeTableWord 8 0x76 = some .halt ∧ decodeTableWord 16 0xCB37 = some .swap_A ∧ decodeTableWord 8 0xC3 = some (.jp_a16 0) ∧
    decodeTableWord 8 0xD3 = some .illegal_D3 ∧ decodeTableWord 16 0xCB00 = some .rlc_B := by decide +kernel

/-! ### The spec's vectors, one machine step each -/

/-- LD B,A. -/
theorem test_v77 :
    after [0x47] ({ start with cpu := { start.cpu with a := 0x5A } })
      (fun t => (t.cpu.b, t.cpu.a, t.cpu.pc, t.cycles)) =
      some (0x5A, 0x5A, 0x0001, 1) := by decide +kernel

/-- LD H,(HL). -/
theorem test_v78 :
    after [0x66] (write8 0xC000 0xD1 ({ start with cpu := { start.cpu with h := 0xC0, l := 0x00 } }))
      (fun t => (wordOf t.cpu.h t.cpu.l, t.cycles)) =
      some (0xD100, 2) := by decide +kernel

/-- LD (HL),d8 into ROM. -/
theorem test_v81 :
    after [0x36, 0x5A] ({ start with cpu := { start.cpu with h := 0x40, l := 0x00 } })
      (fun t => (byteAt t 0x4000, t.cpu.pc, t.cycles)) =
      some (some 0x00, 0x0002, 3) := by decide +kernel

/-- LD (HL),B into echo. -/
theorem test_v82 :
    after [0x70] ({ start with cpu := { start.cpu with h := 0xE1, l := 0x23, b := 0x77 } })
      (fun t => (byteAt t 0xC123, byteAt t 0xE123, t.cycles)) =
      some (some 0x77, some 0x77, 2) := by decide +kernel

/-- LD A,(BC). -/
theorem test_v83 :
    after [0x0A] (write8 0xFF80 0x42 ({ start with cpu := { start.cpu with b := 0xFF, c := 0x80 } }))
      (fun t => (t.cpu.a, t.cycles)) =
      some (0x42, 2) := by decide +kernel

/-- LD (DE),A. -/
theorem test_v84 :
    after [0x12] ({ start with cpu := { start.cpu with d := 0x80, e := 0x00, a := 0x3C } })
      (fun t => (byteAt t 0x8000, t.cycles)) =
      some (some 0x3C, 2) := by decide +kernel

/-- LD (a16),A. -/
theorem test_v85 :
    after [0xEA, 0x00, 0xA0] ({ start with cpu := { start.cpu with a := 0x99 } })
      (fun t => (byteAt t 0xA000, t.cpu.pc, t.cycles)) =
      some (some 0x99, 0x0003, 4) := by decide +kernel

/-- LD A,(a16) reads its own opcode. -/
theorem test_v86 :
    after [0xFA, 0x00, 0x00] start (fun t => (t.cpu.a, t.cpu.pc, t.cycles)) = some (0xFA, 0x0003, 4) := by decide +kernel

/-- LDH (a8),A to BGP. -/
theorem test_v88 :
    after [0xE0, 0x47] ({ start with cpu := { start.cpu with a := 0xE4 } })
      (fun t => (byteAt t 0xFF47, t.cycles)) =
      some (some 0xE4, 3) := by decide +kernel

/-- LDH A,(a8) STAT. -/
theorem test_v89 :
    after [0xF0, 0x41] start (fun t => (t.cpu.a, t.cycles)) = some (0x02, 3) := by decide +kernel

/-- LDH (C),A. -/
theorem test_v90 :
    after [0xE2] ({ start with cpu := { start.cpu with a := 0x01, c := 0xFF } })
      (fun t => (byteAt t 0xFFFF, t.cpu.pc, t.cycles)) =
      some (some 0x01, 0x0001, 2) := by decide +kernel

/-- LD (HL+),A. -/
theorem test_v92 :
    after [0x22] ({ start with cpu := { start.cpu with h := 0xDF, l := 0xFF, a := 0xAB } })
      (fun t => (byteAt t 0xDFFF, wordOf t.cpu.h t.cpu.l, t.cycles)) =
      some (some 0xAB, 0xE000, 2) := by decide +kernel

/-- LD A,(HL+) wrap. -/
theorem test_v93 :
    after [0x2A] (write8 0xFFFF 0x5C ({ start with cpu := { start.cpu with h := 0xFF, l := 0xFF } }))
      (fun t => (t.cpu.a, wordOf t.cpu.h t.cpu.l, t.cycles)) =
      some (0x5C, 0x0000, 2) := by decide +kernel

/-- LD (HL-),A wrap. -/
theorem test_v94 :
    after [0x32] ({ start with cpu := { start.cpu with h := 0x00, l := 0x00, a := 0x11 } })
      (fun t => (wordOf t.cpu.h t.cpu.l, t.cycles)) =
      some (0xFFFF, 2) := by decide +kernel

/-- LD A,(HL-). -/
theorem test_v95 :
    after [0x3A] (write8 0xC001 0x07 ({ start with cpu := { start.cpu with h := 0xC0, l := 0x01 } }))
      (fun t => (t.cpu.a, wordOf t.cpu.h t.cpu.l, t.cycles)) =
      some (0x07, 0xC000, 2) := by decide +kernel

/-- LD (HL),d8 to STAT. -/
theorem test_v97 :
    after [0x36, 0xFF] ({ start with cpu := { start.cpu with h := 0xFF, l := 0x41 } })
      (fun t => (byteAt t 0xFF41, t.cycles)) =
      some (some 0xFE, 3) := by decide +kernel

/-- LD BC,d16. -/
theorem test_v103 :
    after [0x01, 0x34, 0x12] start (fun t => (t.cpu.b, t.cpu.c, t.cpu.pc, t.cycles)) = some (0x12, 0x34, 0x0003, 3) := by decide +kernel

/-- LD (a16),SP. -/
theorem test_v105 :
    after [0x08, 0x00, 0xC0] ({ start with cpu := { start.cpu with sp := 0xFFF8 } })
      (fun t => (byteAt t 0xC000, byteAt t 0xC001, t.cpu.pc, t.cycles)) =
      some (some 0xF8, some 0xFF, 0x0003, 5) := by decide +kernel

/-- LD SP,HL. -/
theorem test_v106 :
    after [0xF9] ({ start with cpu := { start.cpu with h := 0xD0, l := 0x00 } })
      (fun t => (t.cpu.sp, t.cycles)) =
      some (0xD000, 2) := by decide +kernel

/-- LD HL,SP+e8. -/
theorem test_v107 :
    after [0xF8, 0x08] ({ start with cpu := { start.cpu with sp := 0xFFF8, f := 0xF0 } })
      (fun t => (t.cpu.f, wordOf t.cpu.h t.cpu.l, t.cpu.sp, t.cycles)) =
      some (0x30, 0x0000, 0xFFF8, 3) := by decide +kernel

/-- LD HL,SP+e8. -/
theorem test_v110 :
    after [0xF8, 0x80] ({ start with cpu := { start.cpu with sp := 0x0180 } })
      (fun t => (t.cpu.f, wordOf t.cpu.h t.cpu.l, t.cycles)) =
      some (0x10, 0x0100, 3) := by decide +kernel

/-- PUSH BC. -/
theorem test_v111 :
    after [0xC5] ({ start with cpu := { start.cpu with sp := 0xD000, b := 0x12, c := 0x34 } })
      (fun t => (t.cpu.sp, byteAt t 0xCFFE, byteAt t 0xCFFF, t.cycles)) =
      some (0xCFFE, some 0x34, some 0x12, 4) := by decide +kernel

/-- PUSH AF, SP=0 wraps. -/
theorem test_v112 :
    after [0xF5] ({ start with cpu := { start.cpu with a := 0x12, f := 0xF0 } })
      (fun t => (t.cpu.sp, byteAt t 0xFFFE, byteAt t 0xFFFF, t.cycles)) =
      some (0xFFFE, some 0xF0, some 0x12, 4) := by decide +kernel

/-- POP AF masks F. -/
theorem test_v113 :
    after [0xF1] (write8 0xC001 0x12 (write8 0xC000 0xFF ({ start with cpu := { start.cpu with sp := 0xC000 } })))
      (fun t => (t.cpu.f, t.cpu.a, t.cpu.f, t.cpu.sp, t.cycles)) =
      some (0xF0, 0x12, 0xF0, 0xC002, 3) := by decide +kernel

/-- ADD A,B. -/
theorem test_v121 :
    after [0x80] ({ start with cpu := { start.cpu with a := 0x3A, b := 0xC6 } })
      (fun t => (t.cpu.f, t.cpu.a, t.cycles)) =
      some (0xB0, 0x00, 1) := by decide +kernel

/-- ADD A,d8. -/
theorem test_v123 :
    after [0xC6, 0x01] ({ start with cpu := { start.cpu with a := 0x0F } })
      (fun t => (t.cpu.f, t.cpu.a, t.cpu.pc, t.cycles)) =
      some (0x20, 0x10, 0x0002, 2) := by decide +kernel

/-- ADC A,d8. -/
theorem test_v126 :
    after [0xCE, 0x0F] ({ start with cpu := { start.cpu with a := 0x00, f := 0x10 } })
      (fun t => (t.cpu.f, t.cpu.a, t.cycles)) =
      some (0x20, 0x10, 2) := by decide +kernel

/-- SUB A,d8. -/
theorem test_v129 :
    after [0xD6, 0x01] ({ start with cpu := { start.cpu with a := 0x00 } })
      (fun t => (t.cpu.f, t.cpu.a, t.cycles)) =
      some (0x70, 0xFF, 2) := by decide +kernel

/-- SBC A,B. -/
theorem test_v131 :
    after [0x98] ({ start with cpu := { start.cpu with a := 0x00, b := 0x00, f := 0x10 } })
      (fun t => (t.cpu.f, t.cpu.a, t.cycles)) =
      some (0x70, 0xFF, 1) := by decide +kernel

/-- SBC A,d8. -/
theorem test_v132 :
    after [0xDE, 0x0F] ({ start with cpu := { start.cpu with a := 0x10, f := 0x10 } })
      (fun t => (t.cpu.f, t.cpu.a, t.cycles)) =
      some (0xE0, 0x00, 2) := by decide +kernel

/-- SBC A,B. -/
theorem test_v133 :
    after [0x98] ({ start with cpu := { start.cpu with a := 0x00, b := 0xFF, f := 0x10 } })
      (fun t => (t.cpu.f, t.cpu.a, t.cycles)) =
      some (0xF0, 0x00, 1) := by decide +kernel

/-- AND A,C. -/
theorem test_v134 :
    after [0xA1] ({ start with cpu := { start.cpu with a := 0xF0, c := 0x0F, f := 0x50 } })
      (fun t => (t.cpu.f, t.cpu.a, t.cycles)) =
      some (0xA0, 0x00, 1) := by decide +kernel

/-- XOR A,A. -/
theorem test_v136 :
    after [0xAF] ({ start with cpu := { start.cpu with a := 0x77, f := 0xF0 } })
      (fun t => (t.cpu.f, t.cpu.a, t.cycles)) =
      some (0x80, 0x00, 1) := by decide +kernel

/-- OR A,(HL). -/
theorem test_v139 :
    after [0xB6] (write8 0xC000 0x80 ({ start with cpu := { start.cpu with a := 0x01, h := 0xC0, l := 0x00 } }))
      (fun t => (t.cpu.f, t.cpu.a, t.cycles)) =
      some (0x00, 0x81, 2) := by decide +kernel

/-- CP A,d8 nibble borrow. -/
theorem test_v142 :
    after [0xFE, 0x03] ({ start with cpu := { start.cpu with a := 0x42 } })
      (fun t => (t.cpu.f, t.cpu.a, t.cycles)) =
      some (0x60, 0x42, 2) := by decide +kernel

/-- INC B. -/
theorem test_v143 :
    after [0x04] ({ start with cpu := { start.cpu with b := 0xFF, f := 0x10 } })
      (fun t => (t.cpu.f, t.cpu.b, t.cycles)) =
      some (0xB0, 0x00, 1) := by decide +kernel

/-- INC (HL). -/
theorem test_v145 :
    after [0x34] (write8 0xC000 0xFF ({ start with cpu := { start.cpu with h := 0xC0, l := 0x00 } }))
      (fun t => (t.cpu.f, byteAt t 0xC000, t.cycles)) =
      some (0xA0, some 0x00, 3) := by decide +kernel

/-- DEC L. -/
theorem test_v148 :
    after [0x2D] ({ start with cpu := { start.cpu with h := 0x10, l := 0x00 } })
      (fun t => (t.cpu.f, t.cpu.l, t.cpu.h, t.cycles)) =
      some (0x60, 0xFF, 0x10, 1) := by decide +kernel

/-- DEC (HL). -/
theorem test_v149 :
    after [0x35] (write8 0xC000 0x10 ({ start with cpu := { start.cpu with h := 0xC0, l := 0x00 } }))
      (fun t => (t.cpu.f, byteAt t 0xC000, t.cycles)) =
      some (0x60, some 0x0F, 3) := by decide +kernel

/-- DAA after add. -/
theorem test_v151 :
    after [0x27] ({ start with cpu := { start.cpu with a := 0x9A } })
      (fun t => (t.cpu.f, t.cpu.a, t.cycles)) =
      some (0x90, 0x00, 1) := by decide +kernel

/-- DAA after sub, H. -/
theorem test_v154 :
    after [0x27] ({ start with cpu := { start.cpu with a := 0x0F, f := 0x60 } })
      (fun t => (t.cpu.f, t.cpu.a, t.cycles)) =
      some (0x40, 0x09, 1) := by decide +kernel

/-- CPL. -/
theorem test_v158 :
    after [0x2F] ({ start with cpu := { start.cpu with a := 0x35, f := 0x90 } })
      (fun t => (t.cpu.f, t.cpu.a, t.cycles)) =
      some (0xF0, 0xCA, 1) := by decide +kernel

/-- SCF. -/
theorem test_v159 :
    after [0x37] ({ start with cpu := { start.cpu with f := 0xE0 } })
      (fun t => (t.cpu.f, t.cpu.a, t.cycles)) =
      some (0x90, 0x00, 1) := by decide +kernel

/-- CCF. -/
theorem test_v160 :
    after [0x3F] ({ start with cpu := { start.cpu with f := 0xF0 } }) (fun t => (t.cpu.f, t.cycles)) = some (0x80, 1) := by decide +kernel

/-- ADD HL,BC. -/
theorem test_v167 :
    after [0x09] ({ start with cpu := { start.cpu with h := 0x0F, l := 0xFF, b := 0x00, c := 0x01, f := 0xC0 } })
      (fun t => (t.cpu.f, wordOf t.cpu.h t.cpu.l, t.cycles)) =
      some (0xA0, 0x1000, 2) := by decide +kernel

/-- ADD HL,HL. -/
theorem test_v169 :
    after [0x29] ({ start with cpu := { start.cpu with h := 0x88, l := 0x00 } })
      (fun t => (t.cpu.f, wordOf t.cpu.h t.cpu.l, t.cycles)) =
      some (0x30, 0x1000, 2) := by decide +kernel

/-- DEC DE. -/
theorem test_v173 :
    after [0x1B] ({ start with cpu := { start.cpu with d := 0x00, e := 0x00 } })
      (fun t => (t.cpu.f, wordOf t.cpu.d t.cpu.e, t.cycles)) =
      some (0x00, 0xFFFF, 2) := by decide +kernel

/-- ADD SP,e8. -/
theorem test_v175 :
    after [0xE8, 0x01] ({ start with cpu := { start.cpu with sp := 0xFFFF, f := 0xC0 } })
      (fun t => (t.cpu.f, t.cpu.sp, t.cpu.pc, t.cycles)) =
      some (0x30, 0x0000, 0x0002, 4) := by decide +kernel

/-- ADD SP,e8. -/
theorem test_v178 :
    after [0xE8, 0x80] ({ start with cpu := { start.cpu with sp := 0xD080 } })
      (fun t => (t.cpu.f, t.cpu.sp, t.cycles)) =
      some (0x10, 0xD000, 4) := by decide +kernel

/-- RLCA. -/
theorem test_v185 :
    after [0x07] ({ start with cpu := { start.cpu with a := 0x80, f := 0xE0 } })
      (fun t => (t.cpu.f, t.cpu.a, t.cycles)) =
      some (0x10, 0x01, 1) := by decide +kernel

/-- RRCA. -/
theorem test_v187 :
    after [0x0F] ({ start with cpu := { start.cpu with a := 0x01 } })
      (fun t => (t.cpu.f, t.cpu.a, t.cycles)) =
      some (0x10, 0x80, 1) := by decide +kernel

/-- RLA. -/
theorem test_v189 :
    after [0x17] ({ start with cpu := { start.cpu with a := 0x00, f := 0x10 } })
      (fun t => (t.cpu.f, t.cpu.a, t.cycles)) =
      some (0x00, 0x01, 1) := by decide +kernel

/-- RRA. -/
theorem test_v190 :
    after [0x1F] ({ start with cpu := { start.cpu with a := 0x01, f := 0x10 } })
      (fun t => (t.cpu.f, t.cpu.a, t.cycles)) =
      some (0x10, 0x80, 1) := by decide +kernel

/-- SLA B. -/
theorem test_v195 :
    after [0xCB, 0x20] ({ start with cpu := { start.cpu with b := 0x81 } })
      (fun t => (t.cpu.f, t.cpu.b, t.cpu.pc, t.cycles)) =
      some (0x10, 0x02, 0x0002, 2) := by decide +kernel

/-- SRA B. -/
theorem test_v196 :
    after [0xCB, 0x28] ({ start with cpu := { start.cpu with b := 0x81 } })
      (fun t => (t.cpu.f, t.cpu.b, t.cpu.pc, t.cycles)) =
      some (0x10, 0xC0, 0x0002, 2) := by decide +kernel

/-- SRL B. -/
theorem test_v198 :
    after [0xCB, 0x38] ({ start with cpu := { start.cpu with b := 0x81 } })
      (fun t => (t.cpu.f, t.cpu.b, t.cpu.pc, t.cycles)) =
      some (0x10, 0x40, 0x0002, 2) := by decide +kernel

/-- RLC B, C flag set. -/
theorem test_v199 :
    after [0xCB, 0x00] ({ start with cpu := { start.cpu with b := 0x81, f := 0x10 } })
      (fun t => (t.cpu.f, t.cpu.b, t.cycles)) =
      some (0x10, 0x03, 2) := by decide +kernel

/-- RRC B, C flag set. -/
theorem test_v200 :
    after [0xCB, 0x08] ({ start with cpu := { start.cpu with b := 0x81, f := 0x10 } })
      (fun t => (t.cpu.f, t.cpu.b, t.cycles)) =
      some (0x10, 0xC0, 2) := by decide +kernel

/-- RL B, C flag set. -/
theorem test_v201 :
    after [0xCB, 0x10] ({ start with cpu := { start.cpu with b := 0x81, f := 0x10 } })
      (fun t => (t.cpu.f, t.cpu.b, t.cycles)) =
      some (0x10, 0x03, 2) := by decide +kernel

/-- RR B, C flag set. -/
theorem test_v202 :
    after [0xCB, 0x18] ({ start with cpu := { start.cpu with b := 0x81, f := 0x10 } })
      (fun t => (t.cpu.f, t.cpu.b, t.cycles)) =
      some (0x10, 0xC0, 2) := by decide +kernel

/-- RL (HL). -/
theorem test_v208 :
    after [0xCB, 0x16] (write8 0xC000 0x80 ({ start with cpu := { start.cpu with h := 0xC0, l := 0x00 } }))
      (fun t => (t.cpu.f, byteAt t 0xC000, t.cycles)) =
      some (0x90, some 0x00, 4) := by decide +kernel

/-- SWAP (HL). -/
theorem test_v211 :
    after [0xCB, 0x36] (write8 0xFF80 0xA5 ({ start with cpu := { start.cpu with h := 0xFF, l := 0x80, f := 0xF0 } }))
      (fun t => (t.cpu.f, byteAt t 0xFF80, t.cycles)) =
      some (0x00, some 0x5A, 4) := by decide +kernel

/-- BIT 0,B. -/
theorem test_v220 :
    after [0xCB, 0x40] ({ start with cpu := { start.cpu with b := 0x20 } })
      (fun t => (t.cpu.f, t.cpu.b, t.cycles)) =
      some (0xA0, 0x20, 2) := by decide +kernel

/-- BIT 3,(HL). -/
theorem test_v223 :
    after [0xCB, 0x5E] (write8 0xC000 0x08 ({ start with cpu := { start.cpu with h := 0xC0, l := 0x00 } }))
      (fun t => (t.cpu.f, byteAt t 0xC000, t.cycles)) =
      some (0x20, some 0x08, 4) := by decide +kernel

/-- RES 7,(HL). -/
theorem test_v226 :
    after [0xCB, 0xBE] (write8 0xC000 0xFF ({ start with cpu := { start.cpu with h := 0xC0, l := 0x00 } }))
      (fun t => (byteAt t 0xC000, t.cycles)) =
      some (some 0x7F, 4) := by decide +kernel

/-- SET 3,(HL). -/
theorem test_v228 :
    after [0xCB, 0xDE] ({ start with cpu := { start.cpu with h := 0xC0, l := 0x00 } })
      (fun t => (byteAt t 0xC000, t.cycles)) =
      some (some 0x08, 4) := by decide +kernel

/-- SET 0,(HL) LCDC. -/
theorem test_v229 :
    after [0xCB, 0xC6] ({ start with cpu := { start.cpu with h := 0xFF, l := 0x40 } })
      (fun t => (byteAt t 0xFF40, t.cycles)) =
      some (some 0x01, 4) := by decide +kernel

/-- JP NZ,a16 taken. -/
theorem test_v236 :
    after [0xC2, 0x00, 0x02] start (fun t => (t.cpu.pc, t.cycles)) = some (0x0200, 4) := by decide +kernel

/-- JP Z,a16 not taken. -/
theorem test_v237 :
    after [0xCA, 0x00, 0x02] start (fun t => (t.cpu.pc, t.cycles)) = some (0x0003, 3) := by decide +kernel

/-- JP HL. -/
theorem test_v239 :
    after [0xE9] ({ start with cpu := { start.cpu with h := 0xC0, l := 0x00 } })
      (fun t => (t.cpu.pc, t.cycles)) =
      some (0xC000, 1) := by decide +kernel

/-- JR e8 backward wraps. -/
theorem test_v241 :
    after [0x18, 0xFB] start (fun t => (t.cpu.pc, t.cycles)) = some (0xFFFD, 3) := by decide +kernel

/-- JR Z,e8 not taken. -/
theorem test_v244 :
    after [0x28, 0x7F] start (fun t => (t.cpu.pc, t.cycles)) = some (0x0002, 2) := by decide +kernel

/-- CALL a16. -/
theorem test_v247 :
    after [0xCD, 0x34, 0x12] ({ start with cpu := { start.cpu with sp := 0xD000 } })
      (fun t => (t.cpu.pc, t.cpu.sp, byteAt t 0xCFFE, byteAt t 0xCFFF, t.cycles)) =
      some (0x1234, 0xCFFE, some 0x03, some 0x00, 6) := by decide +kernel

/-- CALL Z,a16 not taken. -/
theorem test_v248 :
    after [0xCC, 0x34, 0x12] ({ start with cpu := { start.cpu with sp := 0xD000 } })
      (fun t => (t.cpu.pc, t.cpu.sp, t.cycles)) =
      some (0x0003, 0xD000, 3) := by decide +kernel

/-- RET. -/
theorem test_v250 :
    after [0xC9] (write8 0xCFFF 0x01 (write8 0xCFFE 0x03 ({ start with cpu := { start.cpu with sp := 0xCFFE } })))
      (fun t => (t.cpu.pc, t.cpu.sp, t.cycles)) =
      some (0x0103, 0xD000, 4) := by decide +kernel

/-- RET NZ taken. -/
theorem test_v252 :
    after [0xC0] (write8 0xCFFF 0x01 (write8 0xCFFE 0x03 ({ start with cpu := { start.cpu with sp := 0xCFFE } })))
      (fun t => (t.cpu.pc, t.cpu.sp, t.cycles)) =
      some (0x0103, 0xD000, 5) := by decide +kernel

/-- RET Z not taken. -/
theorem test_v253 :
    after [0xC8] ({ start with cpu := { start.cpu with sp := 0xCFFE } })
      (fun t => (t.cpu.pc, t.cpu.sp, t.cycles)) =
      some (0x0001, 0xCFFE, 2) := by decide +kernel

/-- RETI. -/
theorem test_v255 :
    after [0xD9] (write8 0xCFFF 0x01 (write8 0xCFFE 0x03 ({ start with cpu := { start.cpu with sp := 0xCFFE } })))
      (fun t => (t.cpu.pc, t.cpu.sp, t.cpu.ime, t.cycles)) =
      some (0x0103, 0xD000, true, 4) := by decide +kernel

/-- RST 28H. -/
theorem test_v256 :
    after [0xEF] ({ start with cpu := { start.cpu with sp := 0xD000 } })
      (fun t => (t.cpu.pc, t.cpu.sp, byteAt t 0xCFFE, byteAt t 0xCFFF, t.cycles)) =
      some (0x0028, 0xCFFE, some 0x01, some 0x00, 4) := by decide +kernel

/-- STOP. -/
theorem test_v265 :
    after [0x10, 0x00] start (fun t => (t.cpu.pc, t.cycles)) = some (0x0001, 1) := by decide +kernel

/-- HALT. -/
theorem test_v267 :
    after [0x76] start (fun t => (t.cpu.pc, t.cpu.ime, t.cycles)) = some (0x0001, false, 1) := by decide +kernel

/-- EI. -/
theorem test_v269 :
    after [0xFB] start (fun t => (t.cpu.ime, t.cpu.pc, t.cycles)) = some (true, 0x0001, 1) := by decide +kernel

/-- DI. -/
theorem test_v270 :
    after [0xF3] ({ start with cpu := { start.cpu with ime := true } })
      (fun t => (t.cpu.ime, t.cpu.pc, t.cycles)) =
      some (false, 0x0001, 1) := by decide +kernel

/-- The illegal opcode 0xD3 (lines 272 and P6): the fault, with the opcode and the address of its byte. -/
theorem test_v272 :
    (match step (start.load [0xD3]) with | .fault r => some r | _ => none) = some (.unimplementedOpcode 0xD3 0x0000) := by
  decide +kernel

/-! ### Memory and the GPU -/

/-- Lines 292 to 306: a write and a read of the same byte, each region's ends. -/
theorem test_v294_stored :
    ([(0x8000, 0x8000), (0x9FFF, 0x9FFF), (0xA000, 0xA000), (0xC000, 0xE000), (0xFDFF, 0xDDFF), (0xDE00, 0xDE00), (0xFE00, 0xFE00),
      (0xFE9F, 0xFE9F), (0xFF80, 0xFF80), (0xFFFF, 0xFFFF), (0xFF42, 0xFF42), (0xFF4B, 0xFF4B)] : List (Word × Word)).map
      (fun p => byteAt (write8 p.1 0x15 start) p.2) = List.replicate 12 (some 0x15) := by decide +kernel

/-- Lines 292, 293, 302 to 304, 321: a write that changes no state. -/
theorem test_v302_discarded :
    ([0x0000, 0x7FFF, 0xFEA0, 0xFEFF, 0xFF00, 0xFF3F, 0xFF46, 0xFF4C, 0xFF7F, 0xFF44] : List Word).all
      (fun a => write8 a 0x1B start == start) = true := by decide +kernel

/-- Lines 308 and 309: a word at 0xFFFF, its high byte in the ROM. -/
theorem test_v308_word_wraps :
    (let s := write16 0xFFFF 0x1234 (start.load [0x3E])
     (byteAt s 0xFFFF, byteAt s 0x0000, (read16 0xFFFF s).1)) = (some 0x34, some 0x3E, 0x3E34) := by decide +kernel

/-- Line 310: the boot overlay. -/
theorem test_v310_boot_overlay :
    (let s := { start with mmu := { start.mmu with inBios := true, boot := [(0x00, 0x31)], rom := [(0x100, 0x77)] } }
     (byteAt s 0x0000, byteAt s 0x00FF, byteAt s 0x0100, byteAt (write8 0x0000 0x55 s) 0x0000)) =
      (some 0x31, some 0x00, some 0x77, some 0x31) := by decide +kernel

/-- Lines 331, 332, 335, 342 to 345: the mode machine. -/
theorem test_v331_gpu :
    ([(.oamScan, 0, 79, 2), (.hblank, 142, 200, 4), (.oamScan, 0, 76, 24), (.vblank, 152, 452, 4), (.vblank, 153, 452, 4),
      (.vblank, 153, 448, 4), (.oamScan, 0, 0, 500), (.hblank, 141, 200, 4)] : List (GpuMode × Byte × Nat × Nat)).map
      (fun (m, ly, clock, ticks) =>
        let g := gpuExecute ticks { Gpu.reset with mode := m, ly := ly, clock := clock }
        (g.mode, g.ly, g.clock)) =
    [(.vramScan, 0, 0), (.vblank, 143, 0), (.vramScan, 0, 0), (.vblank, 153, 0), (.oamScan, 0, 0), (.vblank, 153, 452),
      (.vramScan, 0, 0), (.oamScan, 142, 0)] := by decide +kernel

/-- Lines 376, 379 and 380: the colour of single pixels, unsigned and signed tiles, both maps. -/
theorem test_v376_pixels :
    (let g := { Gpu.reset with lcdc := 0x91, bgp := 0xE4, vram := [(0, 0xFF), (1, 0x0F)] }
     [0, 3, 4, 7, 8, 159].map (pixelIntensity g)) = [170, 170, 0, 0, 170, 0] ∧
    (let g := { Gpu.reset with lcdc := 0x81, bgp := 0xE4, vram := [(0x0801, 0xFF), (0x1800, 0x80)] }
     [0, 7, 8].map (pixelIntensity g)) = [85, 85, 255] ∧
    (let g := { Gpu.reset with lcdc := 0x99, bgp := 0x1B, vram := [(0x10, 0x01), (0x1C00, 0x01)] }
     [0, 6, 7, 8].map (pixelIntensity g)) = [0, 0, 85, 0] := by decide +kernel

/-- 95_test_vectors.md E2: the flag primitives. -/
theorem test_E2_flags :
    setFlag .h 0x00 = 0x20 ∧ setFlag .z 0x20 = 0xA0 ∧ resetFlag .h 0xA0 = 0x80 ∧ testFlag .z 0x80 = true ∧
    testFlag .h 0x80 = false := by decide

/-- The reset state runs what is placed for it: SWAP A by its key, two bytes on, two machine cycles, eight ticks (log 7). -/
theorem test_withFetchWord :
    (match step (State.reset.withFetchWord 16 0xCB37) with
     | .next t => some (t.cpu.pc, t.cycles, t.cpu.f, t.gpu.clock)
     | _ => none) = some (0x0002, 2, 0x80, 8) := by decide +kernel

/-! ### Witnesses: what meets the hypotheses of each statement -/

/-- `start` meets the invariants. -/
theorem witness_start : flagsOk start = true ∧ arraysOk start = true ∧ gpuOk start.gpu = true ∧ start.ok = true := by decide +kernel

/-- A machine step from a good state that goes on: NOP. -/
theorem witness_step : ∃ t, step start = .next t ∧ t.cpu.pc = 0x0001 := ⟨_, rfl, by decide +kernel⟩

theorem witness_DecodeEncodeRoundTrip : (Instr.ld_HL_d16 0xFFFF).wf = true ∧ Instr.set_7_A.wf = true := by decide

theorem witness_EncodeDecodeRoundTrip :
    decode [0xFF, 0x00] = .ok (.rst_38H, [0x00]) ∧ decode [0xFA, 0xFF, 0xFF] = .ok (.ld_A_atA16 0xFFFF, []) ∧
    instrLength 0x3E ≤ [(0x00 : Byte)].length + 1 ∧ ¬ instrLength 0x01 ≤ [(0x00 : Byte)].length + 1 := by
  refine ⟨rfl, rfl, ?_, ?_⟩ <;> decide

/-- At the top of the address space: LD A,d8 at 0xFFFF, its operand at 0x0000. -/
def topOfMemory : State := { (start.load [0x5A]) with cpu := { Cpu.reset with pc := 0xFFFF }, mmu :=
  { (start.load [0x5A]).mmu with zram := [(0x7F, 0x3E)] } }

theorem witness_StepRunsDecodedInstruction :
    (Instr.ld_A_d8 0x5A).wf = true ∧
    ∀ k : Fin (encode (.ld_A_d8 0x5A)).length,
      byteAt topOfMemory (topOfMemory.cpu.pc + BitVec.ofNat 16 k.val) = some ((encode (.ld_A_d8 0x5A)).get k) := by decide +kernel

theorem witness_FetchReadsInstruction :
    1 < (encode (.ld_A_d8 0x5A)).length ∧ byteAt topOfMemory (topOfMemory.cpu.pc + BitVec.ofNat 16 1) = some 0x5A := by
  decide +kernel

theorem witness_IllegalOpcodesFault :
    [(Instr.illegal_D3, (0xD3 : Byte)), (.illegal_DB, 0xDB), (.illegal_DD, 0xDD), (.illegal_E3, 0xE3), (.illegal_E4, 0xE4),
      (.illegal_EB, 0xEB), (.illegal_EC, 0xEC), (.illegal_ED, 0xED), (.illegal_F4, 0xF4), (.illegal_FC, 0xFC),
      (.illegal_FD, 0xFD)].all (fun p => isWord ([p.2], p.1)) = true ∧
    byteAt (start.load [0xD3]) (start.load [0xD3]).cpu.pc = some 0xD3 := by decide +kernel

/-- Each mode at its threshold and one tick below it; LY at 142 and 153. -/
theorem witness_GpuExecuteTable :
    ([(.oamScan, 0, 76, 4), (.vramScan, 0, 168, 4), (.hblank, 142, 200, 4), (.vblank, 153, 452, 4)] :
      List (GpuMode × Byte × Nat × Nat)).all (fun (m, ly, clock, ticks) =>
        let g := { Gpu.reset with mode := m, ly := ly, clock := clock }
        gpuOk g && decide (modeTicks g.mode ≤ g.clock + ticks) && decide (g.clock + (ticks - 1) < modeTicks g.mode)) = true ∧
    (let g := { Gpu.reset with mode := .oamScan, clock := 79 }; g.mode = .oamScan ∧ g.clock = 79) ∧
    (let g := { Gpu.reset with mode := .hblank, ly := 142, clock := 200 }; g.mode = .hblank ∧ g.ly = 142 ∧ g.clock = 200) := by
  decide +kernel

/-- A good state in each mode whose next step ends the mode, at the boundary lines; the same NOP runs in each. -/
theorem witness_ModesAndLinesInOrder :
    ([(.oamScan, 142, 76), (.vramScan, 142, 168), (.hblank, 141, 200), (.hblank, 142, 200), (.vblank, 143, 452), (.vblank, 153, 452),
      (.oamScan, 0, 0)] : List (GpuMode × Byte × Nat)).all (fun (m, ly, clock) =>
        let s := { start with gpu := { Gpu.reset with mode := m, ly := ly, clock := clock } }
        s.ok && (match step s with | .next t => t.ok | _ => false)) = true := by decide +kernel

theorem witness_RenderScanDrawsBackgroundLine :
    Memory.wf Gpu.reset.fb = true ∧ Gpu.reset.lcdc.getLsbD 0 = false ∧
    ({ Gpu.reset with lcdc := 0x01 } : Gpu).lcdc.getLsbD 0 = true ∧ 159 < 160 := by decide

theorem witness_WindowAndSpritesDoNotShow : (0xF7 : Byte) &&& 0x19 = ({ Gpu.reset with lcdc := 0x11 } : Gpu).lcdc &&& 0x19 := by
  decide

theorem witness_EchoAndRamAreOneArray :
    0xC000 ≤ (0xC000 : Word).toNat ∧ (0xC000 : Word).toNat ≤ 0xDDFF ∧ 0xC000 ≤ (0xDDFF : Word).toNat ∧
    (0xDDFF : Word).toNat ≤ 0xDDFF ∧ arraysOk start = true ∧ (0xFDFF : Word).toNat ≤ 0xFDFF ∧
    0xDE00 ≤ (0xDE00 : Word).toNat ∧ 0xDE00 ≤ (0xDFFF : Word).toNat ∧ (0xDFFF : Word).toNat ≤ 0xDFFF ∧
    (0xFFFF : Word) ≠ 0xDFFF := by decide +kernel

theorem witness_StepKeepsReadOnlyState : (0x0000 : Word).toNat ≤ 0x7FFF ∧ (0x7FFF : Word).toNat ≤ 0x7FFF := by decide

theorem witness_HostLoadAndReset : (0x7FFF < 0x8000 ∧ 0x8000 ≤ 0x8000) ∧ (start.load [0x3E]).mmu.rom = [(0, 0x3E)] := by decide

theorem witness_StepKeepsFlagNibble : start.cpu.f &&& 0x0F = 0 ∧ ∃ t, step start = .next t := ⟨rfl, _, rfl⟩

theorem witness_FlagPrimitives : Flag.z ≠ .c ∧ (0xF0 : Byte) &&& 0x0F = 0 := by decide

/-- An instruction that goes on; a transfer and a plain instruction. -/
theorem witness_CyclesDependOnFlagsOnly :
    (∃ t, exec .ret_Z start = .next t) ∧ (∃ t, exec .ld_B_C start = .next t) ∧
    transferOpcodes.contains (firstByte .ld_B_C) = false ∧ transferOpcodes.contains (firstByte .ret_Z) = true := by
  exact ⟨⟨_, rfl⟩, ⟨_, rfl⟩, by decide +kernel⟩

theorem witness_OnlyFlagWritersChangeF :
    (∃ t, exec .pop_BC start = .next t) ∧ writesFlags .pop_BC = false ∧ writesFlags .pop_AF = true := by
  exact ⟨⟨_, rfl⟩, by decide +kernel⟩

theorem witness_NothingReadsIME :
    (∃ t, exec .ret start = .next t) ∧ Instr.ret ≠ .di ∧ Instr.ret ≠ .ei ∧ Instr.ret ≠ .reti ∧
    ∃ r, step (start.load [0xD3]) = .fault r := by
  exact ⟨⟨_, rfl⟩, by decide, by decide, by decide, _, rfl⟩

/-- Each form named by a list in a hypothesis is in it, at `start` and operands at an end of their range. -/
theorem witness_LoadAccumulator :
    [(Instr.ld_A_atBC, getPair .bc start, 1, 2), (.ld_A_atDE, getPair .de start, 1, 2), (.ld_A_atA16 0xFFFF, 0xFFFF, 3, 4),
      (.ldh_A_atC, BitVec.ofNat 16 (0xFF00 + start.cpu.c.toNat), 1, 2), (.ldh_A_atA8 0xFF, BitVec.ofNat 16 (0xFF00 + (0xFF : Byte).toNat), 2, 3)].all
      (fun p => p ∈ [(Instr.ld_A_atBC, getPair .bc start, 1, 2), (.ld_A_atDE, getPair .de start, 1, 2), (.ld_A_atA16 0xFFFF, 0xFFFF, 3, 4),
        (.ldh_A_atC, BitVec.ofNat 16 (0xFF00 + start.cpu.c.toNat), 1, 2),
        (.ldh_A_atA8 0xFF, BitVec.ofNat 16 (0xFF00 + (0xFF : Byte).toNat), 2, 3)]) = true := by decide +kernel

theorem witness_StoreAccumulator :
    arraysOk start = true ∧
    [(Instr.ld_atBC_A, getPair .bc start, 1, 2), (.ld_atDE_A, getPair .de start, 1, 2), (.ld_atA16_A 0xFFFF, 0xFFFF, 3, 4),
      (.ldh_atC_A, BitVec.ofNat 16 (0xFF00 + start.cpu.c.toNat), 1, 2), (.ldh_atA8_A 0xFF, BitVec.ofNat 16 (0xFF00 + (0xFF : Byte).toNat), 2, 3)].all
      (fun p => p ∈ [(Instr.ld_atBC_A, getPair .bc start, 1, 2), (.ld_atDE_A, getPair .de start, 1, 2), (.ld_atA16_A 0xFFFF, 0xFFFF, 3, 4),
        (.ldh_atC_A, BitVec.ofNat 16 (0xFF00 + start.cpu.c.toNat), 1, 2),
        (.ldh_atA8_A 0xFF, BitVec.ofNat 16 (0xFF00 + (0xFF : Byte).toNat), 2, 3)]) = true := by decide +kernel

theorem witness_StepHL :
    (Instr.ld_atHLinc_A, (0x22 : Byte), (1 : Int)) ∈ [(.ld_atHLinc_A, (0x22 : Byte), (1 : Int)), (.ld_atHLdec_A, 0x32, -1)] ∧
    (Instr.ld_atHLdec_A, (0x32 : Byte), (-1 : Int)) ∈ [(.ld_atHLinc_A, (0x22 : Byte), (1 : Int)), (.ld_atHLdec_A, 0x32, -1)] ∧
    (Instr.ld_A_atHLinc, (0x2A : Byte), (1 : Int)) ∈ [(.ld_A_atHLinc, (0x2A : Byte), (1 : Int)), (.ld_A_atHLdec, 0x3A, -1)] ∧
    (Instr.ld_A_atHLdec, (0x3A : Byte), (-1 : Int)) ∈ [(.ld_A_atHLinc, (0x2A : Byte), (1 : Int)), (.ld_A_atHLdec, 0x3A, -1)] := by
  decide

theorem witness_AddToAccumulator :
    (AluOp.add, 0, 0) ∈ [(.add, 0, 0), (.adc, 1, flagNat .c start)] ∧
    (AluOp.adc, 1, flagNat .c start) ∈ [(.add, 0, 0), (.adc, 1, flagNat .c start)] ∧ flagsOk start = true := by decide

theorem witness_SubtractFromAccumulator :
    (AluOp.sub, 2, 0) ∈ [(.sub, 2, 0), (.sbc, 3, flagNat .c start), (.cp, 7, 0)] ∧
    (AluOp.sbc, 3, flagNat .c start) ∈ [(.sub, 2, 0), (.sbc, 3, flagNat .c start), (.cp, 7, 0)] ∧
    (AluOp.cp, 7, 0) ∈ [(.sub, 2, 0), (.sbc, 3, flagNat .c start), (.cp, 7, 0)] := by decide

/-- One operation for each clause of the statement's hypothesis. -/
def logicClause (op : AluOp) (code : Nat) (f : Byte → Byte → Byte) : Prop :=
  (op = .and ∧ code = 4 ∧ f = (· &&& ·)) ∨ (op = .xor ∧ code = 5 ∧ f = (· ^^^ ·)) ∨ (op = .or ∧ code = 6 ∧ f = (· ||| ·))

theorem witness_LogicOnAccumulator :
    logicClause .and 4 (· &&& ·) ∧ logicClause .xor 5 (· ^^^ ·) ∧ logicClause .or 6 (· ||| ·) :=
  ⟨.inl ⟨rfl, rfl, rfl⟩, .inr (.inl ⟨rfl, rfl, rfl⟩), .inr (.inr ⟨rfl, rfl, rfl⟩)⟩

theorem witness_DecimalAdjustMakesBcd :
    99 < 100 ∧ ({ start.cpu with a := 0x99, f := 0x10 } : Cpu).a = bcd 99 ∧ start.cpu.a = bcd 0 := by decide

theorem witness_RotateAccumulator :
    (Instr.rlca, RotOp.rlc, (0x07 : Byte)) ∈ [(.rlca, .rlc, 0x07), (.rrca, .rrc, 0x0F), (.rla, .rl, 0x17), (.rra, .rr, 0x1F)] ∧
    (Instr.rra, RotOp.rr, (0x1F : Byte)) ∈ [(.rlca, .rlc, 0x07), (.rrca, .rrc, 0x0F), (.rla, .rl, 0x17), (.rra, .rr, 0x1F)] := by
  decide

theorem witness_Returns :
    (Instr.ret, (0xC9 : Byte)) ∈ [(.ret, (0xC9 : Byte)), (.reti, 0xD9)] ∧
    (Instr.reti, (0xD9 : Byte)) ∈ [(.ret, (0xC9 : Byte)), (.reti, 0xD9)] := by decide

theorem witness_NoOperationsAndInterruptEnable :
    (Instr.halt, (0x76 : Byte)) ∈ [(.nop, (0x00 : Byte)), (.stop, 0x10), (.halt, 0x76)] ∧
    (Instr.ei, (0xFB : Byte), true) ∈ [(.di, (0xF3 : Byte), false), (.ei, 0xFB, true)] := by decide

end Sys2Proof.Tests
end

section
/-! PROOFS. The flag primitives (spec 10_state.md R13): `setFlag` and `resetFlag` are the two cases of `updateFlag`, so what a flag
tests after each of them is read off `testFlag_updateFlag`. -/

namespace Sys2Proof.Machine

/-- `testFlag` is 1 exactly when F meets the flag's mask (R13). -/
theorem testFlag_iff (g : Flag) (f : Byte) : testFlag g f = true ↔ f &&& flagMask g ≠ 0 := bne_iff_ne

@[simp] theorem updateFlag_true (g : Flag) (f : Byte) : updateFlag g true f = setFlag g f := rfl

@[simp] theorem updateFlag_false (g : Flag) (f : Byte) : updateFlag g false f = resetFlag g f := rfl

/-- `setFlag` makes its own flag test 1 and leaves the others (R13). -/
theorem testFlag_setFlag (q g : Flag) (f : Byte) :
    testFlag q (setFlag g f) = if q = g then true else testFlag q f := by
  rw [← updateFlag_true, testFlag_updateFlag]

/-- `resetFlag` makes its own flag test 0 and leaves the others (R13). -/
theorem testFlag_resetFlag (q g : Flag) (f : Byte) :
    testFlag q (resetFlag g f) = if q = g then false else testFlag q f := by
  rw [← updateFlag_false, testFlag_updateFlag]

/-- Settles O26: the masks and the primitives' values by definition; what a flag tests after a set or a reset by the two lemmas
above, and after a flag update by `testFlag_writeFlags`. -/
theorem flagPrimitives : Obligations.FlagPrimitives := by
  refine ⟨⟨rfl, rfl, rfl, rfl⟩, fun g q f cond u =>
    ⟨testFlag_iff g f, rfl, rfl, rfl, ?setSame, ?resetSame, fun hqg => ⟨?setOther, ?resetOther⟩, ?update⟩⟩
  case setSame => rw [testFlag_setFlag, if_pos rfl]
  case resetSame => rw [testFlag_resetFlag, if_pos rfl]
  case setOther => rw [testFlag_setFlag, if_neg hqg]
  case resetOther => rw [testFlag_resetFlag, if_neg hqg]
  case update => exact testFlag_writeFlags q u f

end Sys2Proof.Machine
end

section
/-! PROOFS. The RAM window and the echo window (spec 20_memory.md R38): the addresses of the two windows are exactly those that name a
byte of `wram`, at the address's offset mod 0x2000, so a write through any address of the pair is read through every one. -/

namespace Sys2Proof.Machine

/-- An address names the byte of `wram` at its offset mod 0x2000 when it lies in the RAM window or the echo window, and no other
address names a byte of `wram` (R38). -/
theorem placeOf_eq_wram_iff (s : State) (addr : Word) (k : Nat) :
    placeOf s addr = .wram k ↔ 0xC000 ≤ addr.toNat ∧ addr.toNat ≤ 0xFDFF ∧ addr.toNat % 0x2000 = k := by
  have hgpu (o : Option GpuReg) : (o.map Place.gpuReg).getD .unmapped ≠ .wram k := by cases o <;> simp
  rw [placeOf_ite]
  split_ifs <;> simp only [Place.wram.injEq, hgpu, false_iff] <;> omega

/-- In a state with good arrays the work RAM is in its canonical form. -/
theorem wram_wf_of_arraysOk {s : State} (h : arraysOk s = true) : Memory.wf s.mmu.wram = true := by
  simp only [arraysOk, Bool.and_eq_true] at h
  obtain ⟨⟨⟨⟨⟨-, hwf, -⟩, -⟩, -⟩, -⟩, -⟩ := h
  exact hwf

/-- A byte of `wram` written through one of its addresses is read through every one. -/
theorem byteAt_write8_wram {s : State} {addr b : Word} {k : Nat} (v : Byte) (hs : arraysOk s = true)
    (haddr : placeOf s addr = .wram k) (hb : placeOf s b = .wram k) : byteAt (write8 addr v s) b = some v := by
  rw [byteAt, placeOf_write8, hb, write8, haddr]
  exact congrArg some (memGet_memSet_self _ k v (wram_wf_of_arraysOk hs))

/-- Settles O17: an address of the RAM window and its echo name one byte of `wram`, and an address from 0xDE00 to 0xDFFF is the only
one of its byte. -/
theorem echoAndRamAreOneArray : Obligations.EchoAndRamAreOneArray := by
  refine ⟨fun s addr v hlo hhi hs => ?pair, fun s addr hlo hhi => ?read, fun s addr other v hlo hhi hs => ?top⟩
  case pair =>
    have hram : placeOf s addr = .wram (addr.toNat % 0x2000) := (placeOf_eq_wram_iff ..).2 ⟨hlo, by omega, rfl⟩
    have hecho : placeOf s (addr + 0x2000) = .wram (addr.toNat % 0x2000) :=
      (placeOf_eq_wram_iff ..).2 (by bv_omega)
    exact ⟨by rw [byteAt, byteAt, hecho, hram], byteAt_write8_wram v hs hram hram, byteAt_write8_wram v hs hram hecho,
      byteAt_write8_wram v hs hecho hram, byteAt_write8_wram v hs hecho hecho⟩
  case read => rw [byteAt, (placeOf_eq_wram_iff ..).2 ⟨hlo, hhi, rfl⟩, byteAtPlace]
  case top =>
    have haddr : placeOf s addr = .wram (addr.toNat % 0x2000) := (placeOf_eq_wram_iff ..).2 (by omega)
    refine ⟨byteAt_write8_wram v hs haddr haddr, fun hne => byteAt_write8_ne v s fun hsame => hne ?_⟩
    have hother := (placeOf_eq_wram_iff ..).1 (hsame.trans haddr)
    exact BitVec.eq_of_toNat_eq (by omega)

end Sys2Proof.Machine
end

section
/-! PROOFS. The frames of Safety.lean as rules (spec 20_memory.md R40 to R42, R52): what a read returns and draws, what a byte store
leaves every address reading as, and that the frames compose, so that an operation's frame is put together from those of its parts. -/

namespace Sys2Proof.Machine

/-! ### A byte read -/

/-- A read returns the byte the address holds or the next free value, and draws that value alone (R40, R42). -/
theorem read8_eq (addr : Word) (s : State) :
    read8 addr s = (byteRead s.draws s addr, { s with draws := s.draws + drawn s addr }) := by
  cases h : byteAt s addr with
  | none => rw [read8_of_unmapped h, byteRead, drawn, h]; rfl
  | some v => rw [read8_of_mapped h, byteRead, drawn, h]; rfl

@[simp] theorem read8_value (addr : Word) (s : State) : (read8 addr s).1 = byteRead s.draws s addr := by rw [read8_eq]

@[simp] theorem read8_draws (addr : Word) (s : State) : (read8 addr s).2.draws = s.draws + drawn s addr := by rw [read8_eq]

/-! ### A byte store -/

/-- STAT reads its new bits 7..2 over the mode (60_exceptions.md R251, R252). -/
theorem stat_read_after_write (v : Byte) (mode : BitVec 2) :
    v.extractLsb' 2 6 ++ mode = (v &&& 0xFC) ||| mode.setWidth 8 := by
  have hmask : ∀ i < 8, (0xFC : Byte).getLsbD i = decide (2 ≤ i) := by decide
  refine BitVec.eq_of_getLsbD_eq fun i hi => ?_
  rw [BitVec.getLsbD_append, BitVec.getLsbD_or, BitVec.getLsbD_and, hmask i hi, BitVec.getLsbD_setWidth]
  by_cases h : i < 2
  · simp [h, hi]
  · simp [h, show 2 + (i - 2) = i by omega, show i - 2 < 6 by omega, show 2 ≤ i by omega]

/-- What a GPU register reads as once written: LY as before, STAT its new bits over the mode, any other the byte (R250 to R252). -/
theorem gpuRegRead_gpuRegWrite_self (r : GpuReg) (v : Byte) (g : Gpu) :
    gpuRegRead r (gpuRegWrite r v g) =
      match r with
      | .ly => g.ly
      | .stat => (v &&& 0xFC) ||| (modeBits g.mode).setWidth 8
      | _ => v := by
  cases r with
  | stat => exact stat_read_after_write v (modeBits g.mode)
  | _ => rfl

/-- An address that names the byte stored reads as `afterStore` says (R41). -/
theorem byteAt_write8_same {addr b : Word} (v : Byte) {s : State} (hs : arraysOk s = true) (h : placeOf s b = placeOf s addr) :
    byteAt (write8 addr v s) b = afterStore s b v := by
  simp only [arraysOk, Bool.and_eq_true] at hs
  rw [byteAt, placeOf_write8, write8, ← h]
  unfold afterStore byteAt
  cases hb : placeOf s b with
  | boot k => rfl
  | rom k => rfl
  | unmapped => rfl
  | gpuReg r =>
    have hr := gpuRegRead_gpuRegWrite_self r v s.gpu
    cases r <;> exact congrArg some hr
  | _ => simp [byteAtPlace, writePlace, memGet_memSet_self, hs]

/-- A byte write changes nothing that no instruction changes (R33, R35). -/
theorem keepsFixed_write8 (addr : Word) (v : Byte) (s : State) : keepsFixed s (write8 addr v s) := by simp [keepsFixed]

/-- A byte write stores its byte, and every address that does not name that byte reads as before (R41). -/
theorem storesByte_write8 (addr : Word) (v : Byte) {s : State} (hs : arraysOk s = true) :
    storesByte addr v s (write8 addr v s) := by
  refine ⟨fun b => ?_, keepsFixed_write8 addr v s⟩
  split
  case isTrue h => exact byteAt_write8_same v hs h
  case isFalse h => exact byteAt_write8_ne v s h

/-! ### The frames -/

theorem keepsMemory_of_eq {s t : State} (hm : t.mmu = s.mmu) (hg : t.gpu = s.gpu) : keepsMemory s t :=
  ⟨hm, hg, byteAt_congr hm hg⟩

theorem onlyRegs_setReg (r : Reg8) (v : Byte) (s : State) : onlyRegs [r] s (setReg r v s) := by
  refine ⟨fun q hq => ?_, by simp, by simp, by simp, keepsMemory_of_eq (by simp) (by simp)⟩
  rw [getReg_setReg, if_neg (List.ne_of_not_mem_cons hq)]

theorem onlyRegs_setHL (v : Word) (s : State) : onlyRegs [.h, .l] s (setPair .hl v s) := by
  refine ⟨fun q hq => ?_, rfl, rfl, rfl, keepsMemory_of_eq rfl rfl⟩
  obtain ⟨hh, hl⟩ : q ≠ .h ∧ q ≠ .l := by simpa using hq
  simp [getReg_setPair, highReg, lowReg, hh.symm, hl.symm]

theorem onlyRegs_read8 (addr : Word) (s : State) : onlyRegs [] s (read8 addr s).2 :=
  ⟨fun q _ => getReg_read8 q addr s, by simp, by simp, by simp, keepsMemory_of_eq (by simp) (by simp)⟩

theorem onlyRegs_endAt (target : Word) (m : Nat) (s : State) : onlyRegs [] s (endAt target m s) :=
  ⟨fun q _ => getReg_endAt q target m s, rfl, rfl, rfl, keepsMemory_of_eq rfl rfl⟩

theorem onlyStores_write8 (addr : Word) (v : Byte) {s : State} (hs : arraysOk s = true) :
    onlyStores [] addr v s (write8 addr v s) :=
  ⟨fun q _ => getReg_write8 q addr v s, by simp, by simp, by simp, storesByte_write8 addr v hs⟩

theorem keepsRegs_trans {w w' : List Reg8} {s t u : State} (h : keepsRegs w s t) (h' : keepsRegs w' t u) :
    keepsRegs (w ++ w') s u := fun q hq => by
  obtain ⟨hw, hw'⟩ := not_or.1 (mt List.mem_append.2 hq)
  exact (h' q hw').trans (h q hw)

theorem keepsMemory_trans {s t u : State} (h : keepsMemory s t) (h' : keepsMemory t u) : keepsMemory s u := by
  obtain ⟨hm, hg, -⟩ := h
  obtain ⟨hm', hg', -⟩ := h'
  exact keepsMemory_of_eq (hm'.trans hm) (hg'.trans hg)

/-- What keeps the memory after a store leaves it stored. -/
theorem storesByte_trans_keepsMemory {addr : Word} {v : Byte} {s t u : State} (h : storesByte addr v s t)
    (h' : keepsMemory t u) : storesByte addr v s u := by
  obtain ⟨hbyte, hfixed⟩ := h
  obtain ⟨hm, hg, hb⟩ := h'
  refine ⟨fun b => (hb b).trans (hbyte b), ?_⟩
  rw [keepsFixed, hm, hg]
  exact hfixed

theorem onlyRegs.trans {w w' : List Reg8} {s t u : State} (h : onlyRegs w s t) (h' : onlyRegs w' t u) :
    onlyRegs (w ++ w') s u := by
  obtain ⟨hr, hf, hsp, hime, hmem⟩ := h
  obtain ⟨hr', hf', hsp', hime', hmem'⟩ := h'
  exact ⟨keepsRegs_trans hr hr', hf'.trans hf, hsp'.trans hsp, hime'.trans hime, keepsMemory_trans hmem hmem'⟩

theorem onlyStores.trans_onlyRegs {w w' : List Reg8} {addr : Word} {v : Byte} {s t u : State} (h : onlyStores w addr v s t)
    (h' : onlyRegs w' t u) : onlyStores (w ++ w') addr v s u := by
  obtain ⟨hr, hf, hsp, hime, hst⟩ := h
  obtain ⟨hr', hf', hsp', hime', hmem'⟩ := h'
  exact ⟨keepsRegs_trans hr hr', hf'.trans hf, hsp'.trans hsp, hime'.trans hime, storesByte_trans_keepsMemory hst hmem'⟩

/-- The end of an instruction whose operation left PC alone and drew `n` free values (30_encoding.md R72, R74). -/
theorem goesOn_endAt {len m n : Nat} {s t : State} (hpc : t.cpu.pc = s.cpu.pc) (hdraws : t.draws = s.draws + n) :
    goesOn len m n s (endAt (nextPC len t) m t) :=
  ⟨nextPC_congr len hpc, rfl, hdraws⟩

end Sys2Proof.Machine
end

section
/-! PROOFS. The 8-bit loads (spec 40_load8.md): one rule for each of their five shared operations, then the encodings and the forms that
call them. -/

namespace Sys2Proof.Machine

/-! ### The shared operations -/

theorem loadReg_spec (r r' : Reg8) (s : State) :
    ∃ t, loadReg r r' s = .next t ∧ getReg r t = getReg r' s ∧ onlyRegs [r] s t ∧ goesOn 1 1 0 s t :=
  ⟨_, finish_eq .., by simp, (onlyRegs_setReg ..).trans (onlyRegs_endAt ..), goesOn_endAt (by simp) (by simp)⟩

theorem loadImm_spec (r : Reg8) (d8 : Byte) (s : State) :
    ∃ t, loadImm r d8 s = .next t ∧ getReg r t = d8 ∧ onlyRegs [r] s t ∧ goesOn 2 2 0 s t :=
  ⟨_, finish_eq .., by simp, (onlyRegs_setReg ..).trans (onlyRegs_endAt ..), goesOn_endAt (by simp) (by simp)⟩

theorem loadFrom_spec (r : Reg8) (addr : Word) (len m : Nat) (s : State) :
    ∃ t, loadFrom r addr len m s = .next t ∧ getReg r t = byteRead s.draws s addr ∧ onlyRegs [r] s t ∧
      goesOn len m (drawn s addr) s t :=
  ⟨_, finish_eq .., by simp, ((onlyRegs_read8 ..).trans (onlyRegs_setReg ..)).trans (onlyRegs_endAt ..),
    goesOn_endAt (by simp) (by simp)⟩

theorem storeTo_spec (addr : Word) (v : Byte) (len m : Nat) {s : State} (hs : arraysOk s = true) :
    ∃ t, storeTo addr v len m s = .next t ∧ onlyStores [] addr v s t ∧ goesOn len m 0 s t :=
  ⟨_, finish_eq .., (onlyStores_write8 _ _ hs).trans_onlyRegs (onlyRegs_endAt ..), goesOn_endAt (by simp) (by simp)⟩

theorem storeThenStep_spec (delta : Word) {s : State} (hs : arraysOk s = true) :
    ∃ t, storeThenStep delta s = .next t ∧ getPair .hl t = getPair .hl s + delta ∧
      onlyStores [.h, .l] (getPair .hl s) s.cpu.a s t ∧ goesOn 1 2 0 s t :=
  ⟨_, finish_eq .., by simp,
    ((onlyStores_write8 _ _ hs).trans_onlyRegs (onlyRegs_setHL ..)).trans_onlyRegs (onlyRegs_endAt ..),
    goesOn_endAt (by simp) (by simp)⟩

theorem loadThenStep_spec (delta : Word) (s : State) :
    ∃ t, loadThenStep delta s = .next t ∧ t.cpu.a = byteRead s.draws s (getPair .hl s) ∧
      getPair .hl t = getPair .hl s + delta ∧ onlyRegs [.a, .h, .l] s t ∧ goesOn 1 2 (drawn s (getPair .hl s)) s t := by
  refine ⟨_, finish_eq .., ?value, by simp,
    (((onlyRegs_read8 ..).trans (onlyRegs_setReg ..)).trans (onlyRegs_setHL ..)).trans (onlyRegs_endAt ..),
    goesOn_endAt (by simp) (by simp)⟩
  case value => rw [← getReg_a, getReg_endAt, getReg_setPair]; simp [highReg, lowReg]

/-! ### Addresses as the spec computes them, on unbounded integers -/

/-- HL moved by an integer wraps at 16 bits (R115 to R118). -/
theorem ofInt_toNat_add (w : Word) (delta : Int) : BitVec.ofInt 16 (w.toNat + delta) = w + BitVec.ofInt 16 delta := by
  rw [BitVec.ofInt_add, BitVec.ofInt_natCast, BitVec.ofNat_toNat, BitVec.setWidth_eq]

/-- A high-page address is 0xFF00 plus its offset (R111 to R114). -/
theorem highPage_eq (off : Byte) : highPage off = BitVec.ofNat 16 (0xFF00 + off.toNat) := by
  unfold highPage; bv_omega

/-! ### The encodings -/

theorem encode_ldForm (r r' : Reg8) : encode (ldForm r r') = [opcode (0x40 + 8 * regCode r + regCode r')] := by
  cases r <;> cases r' <;> rfl

theorem encode_ldImmForm_reg (r : Reg8) (d8 : Byte) :
    encode (ldImmForm (.reg r) d8) = [opcode (0x06 + 8 * regCode r), d8] := by
  cases r <;> rfl

theorem encode_ldFromHLForm (r : Reg8) : encode (ldFromHLForm r) = [opcode (0x46 + 8 * regCode r)] := by
  cases r <;> rfl

theorem encode_ldToHLForm (r : Reg8) : encode (ldToHLForm r) = [opcode (0x70 + regCode r)] := by
  cases r <;> rfl

/-! ### The statements -/

/-- Settles O31: both families are `setReg` and the default end. -/
theorem loadRegister : Obligations.LoadRegister := by
  refine ⟨fun r r' s => ⟨encode_ldForm r r', ?_⟩, fun r d8 s => ⟨encode_ldImmForm_reg r d8, ?_⟩⟩
  · rw [exec_ldForm]; exact loadReg_spec r r' s
  · rw [exec_ldImmForm_reg]; exact loadImm_spec r d8 s

/-- Settles O32: a read at HL, whatever the register written, H and L included. -/
theorem loadRegisterFromMemory : Obligations.LoadRegisterFromMemory := by
  refine fun r s => ⟨encode_ldFromHLForm r, ?_⟩
  rw [exec_ldFromHLForm]
  exact loadFrom_spec r _ 1 2 s

/-- Settles O33: both families are a byte write at HL. -/
theorem storeAtHL : Obligations.StoreAtHL := by
  refine ⟨fun r s hs => ⟨encode_ldToHLForm r, ?_⟩, fun d8 s hs => ⟨rfl, ?_⟩⟩
  · rw [exec_ldToHLForm]; exact storeTo_spec _ _ 1 2 hs
  · rw [exec_ldImmForm_atHL]; exact storeTo_spec _ d8 2 3 hs

/-- Settles O34: each of the five forms is `loadFrom` into A at the address its rule computes. -/
theorem loadAccumulator : Obligations.LoadAccumulator := by
  refine fun s a8 a16 => ⟨⟨rfl, rfl, rfl, rfl, rfl⟩, fun i addr len m hmem => ?_⟩
  have hexec : exec i s = loadFrom .a addr len m s := by
    simp only [← highPage_eq, List.mem_cons, List.not_mem_nil, or_false, Prod.mk.injEq] at hmem
    rcases hmem with ⟨rfl, rfl, rfl, rfl⟩ | ⟨rfl, rfl, rfl, rfl⟩ | ⟨rfl, rfl, rfl, rfl⟩ | ⟨rfl, rfl, rfl, rfl⟩ |
      ⟨rfl, rfl, rfl, rfl⟩ <;> rfl
  rw [hexec]
  exact loadFrom_spec .a addr len m s

/-- Settles O35: each of the five forms is `storeTo` of A at the address its rule computes. -/
theorem storeAccumulator : Obligations.StoreAccumulator := by
  refine fun s a8 a16 hs => ⟨⟨rfl, rfl, rfl, rfl, rfl⟩, fun i addr len m hmem => ?_⟩
  have hexec : exec i s = storeTo addr s.cpu.a len m s := by
    simp only [← highPage_eq, List.mem_cons, List.not_mem_nil, or_false, Prod.mk.injEq] at hmem
    rcases hmem with ⟨rfl, rfl, rfl, rfl⟩ | ⟨rfl, rfl, rfl, rfl⟩ | ⟨rfl, rfl, rfl, rfl⟩ | ⟨rfl, rfl, rfl, rfl⟩ |
      ⟨rfl, rfl, rfl, rfl⟩ <;> rfl
  rw [hexec]
  exact storeTo_spec addr s.cpu.a len m hs

/-- Settles O36: both forms are `storeThenStep`, by the step read as a 16-bit word. -/
theorem storeAccumulatorAndStepHL : Obligations.StoreAccumulatorAndStepHL := by
  intro i op delta s hs hmem
  have hform : encode i = [op] ∧ exec i s = storeThenStep (BitVec.ofInt 16 delta) s := by
    simp only [List.mem_cons, List.not_mem_nil, or_false, Prod.mk.injEq] at hmem
    rcases hmem with ⟨rfl, rfl, rfl⟩ | ⟨rfl, rfl, rfl⟩ <;> exact ⟨rfl, rfl⟩
  obtain ⟨hencode, hexec⟩ := hform
  rw [hexec, ofInt_toNat_add]
  exact ⟨hencode, storeThenStep_spec _ hs⟩

/-- Settles O37: both forms are `loadThenStep`, by the step read as a 16-bit word. -/
theorem loadAccumulatorAndStepHL : Obligations.LoadAccumulatorAndStepHL := by
  intro i op delta s hmem
  have hform : encode i = [op] ∧ exec i s = loadThenStep (BitVec.ofInt 16 delta) s := by
    simp only [List.mem_cons, List.not_mem_nil, or_false, Prod.mk.injEq] at hmem
    rcases hmem with ⟨rfl, rfl, rfl⟩ | ⟨rfl, rfl, rfl⟩ <;> exact ⟨rfl, rfl⟩
  obtain ⟨hencode, hexec⟩ := hform
  rw [hexec, ofInt_toNat_add]
  exact ⟨hencode, loadThenStep_spec _ s⟩

end Sys2Proof.Machine
end

section
/-! PROOFS. Word accesses and the stack as rules (spec 20_memory.md R43, R44; 41_load16_stack.md R126, R127): what a word read and a pop
return and draw, what a word store and a push leave every address reading as, and the frame of a pair's write. -/

namespace Sys2Proof.Machine

/-! ### A word read and a pop -/

@[simp] theorem drawn_read8 (addr b : Word) (s : State) : drawn (read8 addr s).2 b = drawn s b := by simp [drawn]

@[simp] theorem byteRead_read8 (n : Nat) (addr b : Word) (s : State) : byteRead n (read8 addr s).2 b = byteRead n s b := by
  simp [byteRead]

@[simp] theorem read16_value (addr : Word) (s : State) : (read16 addr s).1 = wordRead s addr := by simp [read16, wordRead]

@[simp] theorem read16_draws (addr : Word) (s : State) : (read16 addr s).2.draws = s.draws + wordDrawn s addr := by
  simp [read16, wordDrawn, Nat.add_assoc]

@[simp] theorem pop16_value (s : State) : (pop16 s).1 = wordRead s s.cpu.sp := read16_value s.cpu.sp s

@[simp] theorem pop16_draws (s : State) : (pop16 s).2.draws = s.draws + wordDrawn s s.cpu.sp := read16_draws s.cpu.sp s

@[simp] theorem getReg_pop16 (q : Reg8) (s : State) : getReg q (pop16 s).2 = getReg q s := by simp [pop16]

/-! ### A word store and a push -/

theorem keepsFixed_trans {s t u : State} (h : keepsFixed s t) (h' : keepsFixed t u) : keepsFixed s u := by
  simp_all [keepsFixed]

/-- The boot latch alone decides what an address names (20_memory.md R34). -/
theorem placeOf_of_keepsFixed {s t : State} (h : keepsFixed s t) (b : Word) : placeOf t b = placeOf s b :=
  congrArg (place · b) h.1

/-- What an address reads as after a store depends on the byte stored and on what no instruction changes. -/
theorem afterStore_of_keepsFixed {s t : State} (h : keepsFixed s t) (b : Word) (v : Byte) :
    afterStore t b v = afterStore s b v := by
  have hplace := placeOf_of_keepsFixed h b
  obtain ⟨-, hboot, hrom, hmode, -, hly, -⟩ := h
  unfold afterStore byteAt
  rw [hplace, hmode, hly]
  cases placeOf s b with
  | gpuReg r => cases r <;> rfl
  | _ => simp [byteAtPlace, hboot, hrom]

/-- The low byte stored and then the high byte at the next address are the word stored (R44). -/
theorem storesWord_of_storesByte {addr v : Word} {s t u : State} (hlow : storesByte addr (lowByte v) s t)
    (hhigh : storesByte (addr + 1) (highByte v) t u) : storesWord addr v s u := by
  obtain ⟨hbyte, hfixed⟩ := hlow
  obtain ⟨hbyte', hfixed'⟩ := hhigh
  refine ⟨fun b => ?_, keepsFixed_trans hfixed hfixed'⟩
  rw [hbyte', hbyte, placeOf_of_keepsFixed hfixed, placeOf_of_keepsFixed hfixed, afterStore_of_keepsFixed hfixed]

theorem storesWord_write16 (addr v : Word) {s : State} (hs : arraysOk s = true) : storesWord addr v s (write16 addr v s) :=
  storesWord_of_storesByte (storesByte_write8 _ _ hs) (storesByte_write8 _ _ (arraysOk_write8 _ _ hs))

/-- A push moves SP by itself and stores its word there, and does nothing else (R126). -/
theorem onlyPushes_push16 (v : Word) {s : State} (hs : arraysOk s = true) : onlyPushes v s (push16 v s) := by
  refine ⟨by simp [push16], fun q _ => by simp [push16], by simp [push16], by simp [push16], ?_⟩
  exact storesWord_write16 (s := setSP (s.cpu.sp - 2) s) _ v hs

theorem onlyPushes.endAt {v : Word} {s t : State} (h : onlyPushes v s t) (target : Word) (m : Nat) :
    onlyPushes v s (endAt target m t) := by
  obtain ⟨hsp, hr, hf, hime, hst⟩ := h
  exact ⟨hsp, fun q hq => (getReg_endAt ..).trans (hr q hq), hf, hime, hst⟩

/-! ### A pair's write -/

@[simp] theorem setPair_a (p : Pair) (v : Word) (s : State) : (setPair p v s).cpu.a = s.cpu.a := by cases p <;> rfl

theorem onlyPair_setPair (p : Pair) (v : Word) (s : State) : onlyPair p v s.cpu.f s (setPair p v s) :=
  ⟨getPair_setPair_self p v s, fun _ hq => getPair_setPair_ne v s hq, by simp, by simp, by simp,
    keepsMemory_of_eq (by simp) (by simp)⟩

theorem onlyPair.endAt {p : Pair} {v : Word} {f : Byte} {s t : State} (h : onlyPair p v f s t) (target : Word) (m : Nat) :
    onlyPair p v f s (endAt target m t) := by
  obtain ⟨hp, hq, ha, hf, hime, hmem⟩ := h
  exact ⟨(getPair_endAt ..).trans hp, fun q hne => (getPair_endAt ..).trans (hq q hne), ha, hf, hime, hmem⟩

/-- The 8-bit registers a stack pair's write can change; F is not among them (R11, R66). -/
def stackPairRegs : StackPair → List Reg8
  | .bc => [.b, .c]
  | .de => [.d, .e]
  | .hl => [.h, .l]
  | .af => [.a]

theorem keepsRegs_setStackPair (p : StackPair) (v : Word) (s : State) : keepsRegs (stackPairRegs p) s (setStackPair p v s) := by
  intro q hq
  cases p <;> simp only [stackPairRegs, List.mem_cons, List.not_mem_nil, or_false, not_or] at hq <;>
    simp [getReg_setStackPair, getReg_setPair, highReg, lowReg, hq, eq_comm]

end Sys2Proof.Machine
end

section
/-! PROOFS. The 16-bit loads and the stack instructions (spec 41_load16_stack.md R120 to R125): one rule for each shared operation, then
the encodings and the forms that call them. -/

namespace Sys2Proof.Machine

/-! ### The shared operations -/

theorem loadPairImm_spec (p : Pair) (d16 : Word) (s : State) :
    ∃ t, loadPairImm p d16 s = .next t ∧ onlyPair p d16 s.cpu.f s t ∧ goesOn 3 3 0 s t :=
  ⟨_, finish_eq .., (onlyPair_setPair p d16 s).endAt .., goesOn_endAt (by simp) (by simp)⟩

theorem pushPair_spec (p : StackPair) {s : State} (hs : arraysOk s = true) :
    ∃ t, pushPair p s = .next t ∧ onlyPushes (getStackPair p s) s t ∧ goesOn 1 4 0 s t :=
  ⟨_, finish_eq .., (onlyPushes_push16 _ hs).endAt .., goesOn_endAt (by simp [push16]) (by simp [push16])⟩

/-- A pop leaves the registers and F as a write of the word at SP to its pair does (R125, R127). -/
theorem popPair_spec (p : StackPair) (s : State) :
    ∃ t, popPair p s = .next t ∧ t.cpu.sp = s.cpu.sp + 2 ∧ t.cpu.ime = s.cpu.ime ∧ keepsMemory s t ∧
      goesOn 1 3 (wordDrawn s s.cpu.sp) s t ∧ keepsRegs [] (setStackPair p (wordRead s s.cpu.sp) s) t ∧
      t.cpu.f = (setStackPair p (wordRead s s.cpu.sp) s).cpu.f := by
  refine ⟨_, finish_eq .., by simp, by simp, keepsMemory_of_eq (by simp) (by simp), goesOn_endAt (by simp) (by simp),
    fun q _ => ?regs, by simp [setStackPair_f]⟩
  case regs => rw [getReg_endAt, pop16_value]; cases p <;> simp [getReg_setStackPair, getReg_setPair]

/-! ### The encodings -/

theorem encode_ldPairForm (p : Pair) (d16 : Word) :
    encode (ldPairForm p d16) = [opcode (0x01 + 16 * pairCode p), lowByte d16, highByte d16] := by
  cases p <;> rfl

theorem encode_pushForm (p : StackPair) : encode (pushForm p) = [opcode (0xC5 + 16 * stackPairCode p)] := by
  cases p <;> rfl

theorem encode_popForm (p : StackPair) : encode (popForm p) = [opcode (0xC1 + 16 * stackPairCode p)] := by
  cases p <;> rfl

/-! ### The statements -/

/-! A namespace of their own: the operations `pushPair` and `popPair` have the names of two of them. -/

namespace Load16

/-- Settles O38: LD rr,d16 is the write of its pair, and LD SP,HL the write of SP with the pair HL. -/
theorem loadPair : Obligations.LoadPair := by
  refine ⟨fun p d16 s => ⟨encode_ldPairForm p d16, ?imm⟩, fun s => ⟨rfl, ?spHL⟩⟩
  case imm => rw [exec_ldPairForm]; exact loadPairImm_spec p d16 s
  case spHL => exact ⟨_, rfl, (onlyPair_setPair .sp _ s).endAt .., goesOn_endAt rfl rfl⟩

/-- Settles O39: a word write of SP at `a16` and the default end, which leaves what was stored. -/
theorem storeSP : Obligations.StoreSP := by
  intro a16 s hs
  refine ⟨rfl, _, rfl, fun q _ => by simp, by simp, by simp, by simp, ?stored, goesOn_endAt (by simp) (by simp)⟩
  case stored => exact storesWord_write16 a16 s.cpu.sp hs

/-- Settles O41: each pair's value, read before, is the word of one push. -/
theorem pushPair : Obligations.PushPair := by
  refine fun p s hs => ⟨encode_pushForm p, ?_⟩
  rw [exec_pushForm]
  cases p <;> exact pushPair_spec _ hs

/-- Settles O42: a pair's bytes are those of the word at SP put together again; AF's are its bytes, the low one masked. -/
theorem popPair : Obligations.PopPair := by
  refine fun p s => ⟨encode_popForm p, ?_⟩
  rw [exec_popForm]
  obtain ⟨t, hexec, hsp, hime, hmem, hend, hregs, hf⟩ := popPair_spec p s
  refine ⟨t, hexec, hsp, hime, hmem, hend, ?_⟩
  have hkeep := keepsRegs_trans (keepsRegs_setStackPair p (wordRead s s.cpu.sp) s) hregs
  have hreg (q : Reg8) : getReg q t = getReg q (setStackPair p (wordRead s s.cpu.sp) s) := hregs q List.not_mem_nil
  cases p with
  | bc => exact ⟨(congrArg₂ wordOf (hreg .b) (hreg .c)).trans (wordOf_highByte_lowByte _), hkeep, hf⟩
  | de => exact ⟨(congrArg₂ wordOf (hreg .d) (hreg .e)).trans (wordOf_highByte_lowByte _), hkeep, hf⟩
  | hl => exact ⟨(congrArg₂ wordOf (hreg .h) (hreg .l)).trans (wordOf_highByte_lowByte _), hkeep, hf⟩
  | af => exact ⟨hreg .a, hf, hkeep⟩

end Load16

end Sys2Proof.Machine
end

section
/-! PROOFS. The flag register as a whole, and the frames of an operand and of F as rules (spec 10_state.md R12, R13; 30_encoding.md R64):
F after a flag update is its four flags packed, and a read or a write of an 8-bit operand composes with the other frames. -/

namespace Sys2Proof.Machine

/-! ### F as its four flags -/

theorem lowNibble_of_flagsOk {s : State} (h : flagsOk s = true) : s.cpu.f &&& 0x0F = 0x00 := eq_of_beq h

/-- A byte with its low nibble zero is its four flags packed (R12). -/
theorem eq_packFlags_testFlag (f : Byte) (h : f &&& 0x0F = 0x00) :
    f = packFlags (testFlag .z f) (testFlag .n f) (testFlag .h f) (testFlag .c f) := by
  revert f; decide

/-- `flags <- (z, n, h, c)` on all of F: each flag given or kept, and no other bit (R12, R13). -/
theorem writeFlags_eq_packFlags (u : FlagUpdate) {f : Byte} (h : f &&& 0x0F = 0x00) :
    writeFlags u f = packFlags (u.z.getD (testFlag .z f)) (u.n.getD (testFlag .n f)) (u.h.getD (testFlag .h f))
      (u.c.getD (testFlag .c f)) := by
  rw [eq_packFlags_testFlag _ (writeFlags_lowNibble u f h)]
  simp only [testFlag_writeFlags, FlagUpdate.at]

theorem packFlags_congr {z z' n h h' c c' : Bool} (hz : z = z') (hh : h = h') (hc : c = c') :
    packFlags z n h c = packFlags z' n h' c' := by
  rw [hz, hh, hc]

/-! ### Reading and writing an 8-bit operand -/

@[simp] theorem readOperand_value (o : Operand8) (s : State) : (readOperand o s).1 = operandByte o s := by
  cases o with
  | reg r => rfl
  | atHL => exact read8_value ..

@[simp] theorem readOperand_draws (o : Operand8) (s : State) : (readOperand o s).2.draws = s.draws + operandDrawn o s := by
  cases o with
  | reg r => rfl
  | atHL => exact read8_draws ..

@[simp] theorem arraysOk_readOperand (o : Operand8) (s : State) : arraysOk (readOperand o s).2 = arraysOk s :=
  arraysOk_congr (by simp) (by simp)

theorem operandCycles_eq_ite (o : Operand8) (onReg onMem : Nat) :
    operandCycles o onReg onMem = if o = .atHL then onMem else onReg := by
  cases o <;> simp [operandCycles]

theorem onlyRegs_readOperand (o : Operand8) (s : State) : onlyRegs [] s (readOperand o s).2 :=
  ⟨fun q _ => getReg_readOperand q o s, by simp, by simp, by simp, keepsMemory_of_eq (by simp) (by simp)⟩

theorem onlyOperand_writeOperand (o : Operand8) (v : Byte) {s : State} (hs : arraysOk s = true) :
    onlyOperand o v s.cpu.f s (writeOperand o v s) := by
  refine ⟨by simp, by simp, by simp, ?_⟩
  cases o with
  | reg r =>
    obtain ⟨hregs, -, -, -, hmem⟩ := onlyRegs_setReg r v s
    exact ⟨getReg_setReg_self r v s, hregs, hmem⟩
  | atHL => exact ⟨fun q _ => getReg_write8 q _ v s, storesByte_write8 _ v hs⟩

/-! ### How the frames compose -/

theorem onlyRegs_refl (s : State) : onlyRegs [] s s := ⟨fun _ _ => rfl, rfl, rfl, rfl, keepsMemory_of_eq rfl rfl⟩

theorem keepsFixed_of_keepsMemory {s t : State} (h : keepsMemory s t) : keepsFixed s t := by
  obtain ⟨hm, hg, -⟩ := h
  simp [keepsFixed, hm, hg]

/-- What keeps the memory before a store changes nothing of what is stored. -/
theorem storesByte_of_keepsMemory {addr : Word} {v : Byte} {s t u : State} (h : keepsMemory s t)
    (h' : storesByte addr v t u) : storesByte addr v s u := by
  have hfix := keepsFixed_of_keepsMemory h
  obtain ⟨-, -, hbyte⟩ := h
  obtain ⟨hbyte', hfix'⟩ := h'
  refine ⟨fun b => ?_, keepsFixed_trans hfix hfix'⟩
  rw [hbyte', placeOf_of_keepsFixed hfix, placeOf_of_keepsFixed hfix, afterStore_of_keepsFixed hfix, hbyte]

theorem onlyRegs.trans_onlyOperand {o : Operand8} {v f : Byte} {s t u : State} (h : onlyRegs [] s t)
    (h' : onlyOperand o v f t u) : onlyOperand o v f s u := by
  obtain ⟨hr, -, hsp, hime, hmem⟩ := h
  obtain ⟨hf', hsp', hime', hop⟩ := h'
  refine ⟨hf', hsp'.trans hsp, hime'.trans hime, ?_⟩
  cases o with
  | reg r =>
    obtain ⟨hv, hr', hmem'⟩ := hop
    exact ⟨hv, keepsRegs_trans hr hr', keepsMemory_trans hmem hmem'⟩
  | atHL =>
    obtain ⟨hr', hst⟩ := hop
    have hHL : getPair .hl t = getPair .hl s := congrArg₂ wordOf (hr .h List.not_mem_nil) (hr .l List.not_mem_nil)
    exact ⟨keepsRegs_trans hr hr', hHL ▸ storesByte_of_keepsMemory hmem hst⟩

/-- What follows an operand's write may change F, and PC and the model's counters, which no frame speaks of. -/
theorem onlyOperand.trans_onlyRegsAndFlags {o : Operand8} {v f f' : Byte} {s t u : State} (h : onlyOperand o v f s t)
    (h' : onlyRegsAndFlags [] f' t u) : onlyOperand o v f' s u := by
  obtain ⟨-, hsp, hime, hop⟩ := h
  obtain ⟨hr', hf', hsp', hime', hmem'⟩ := h'
  refine ⟨hf', hsp'.trans hsp, hime'.trans hime, ?_⟩
  cases o with
  | reg r =>
    obtain ⟨hv, hr, hmem⟩ := hop
    refine ⟨(hr' r List.not_mem_nil).trans hv, fun q hq => ?_, keepsMemory_trans hmem hmem'⟩
    exact (hr' q List.not_mem_nil).trans (hr q hq)
  | atHL =>
    obtain ⟨hr, hst⟩ := hop
    exact ⟨keepsRegs_trans hr hr', storesByte_trans_keepsMemory hst hmem'⟩

/-- A flag update and the end of the instruction after an operation that left F alone. -/
theorem onlyRegs.flagsEnd {w : List Reg8} {s t : State} (h : onlyRegs w s t) (u : FlagUpdate) (target : Word) (m : Nat) :
    onlyRegsAndFlags w (writeFlags u s.cpu.f) s (endAt target m (setFlags u t)) := by
  obtain ⟨hr, hf, hsp, hime, hm, hg, -⟩ := h
  refine ⟨fun q hq => ?_, congrArg (writeFlags u) hf, hsp, hime, keepsMemory_of_eq hm hg⟩
  rw [getReg_endAt, getReg_setFlags, hr q hq]

/-- The same after an operand's write. -/
theorem onlyOperand.flagsEnd {o : Operand8} {v f : Byte} {s t : State} (h : onlyOperand o v f s t) (u : FlagUpdate)
    (target : Word) (m : Nat) : onlyOperand o v (writeFlags u f) s (endAt target m (setFlags u t)) :=
  h.1 ▸ h.trans_onlyRegsAndFlags ((onlyRegs_refl t).flagsEnd u target m)

end Sys2Proof.Machine
end

section
/-! PROOFS. 8-bit arithmetic and logic (spec 42_alu8.md R130 to R142, R144 to R146): one rule for each shared operation, what each
computes as the spec computes it, then the encodings and the forms that call them. -/

namespace Sys2Proof.Machine

/-! ### The shared operations -/

/-- A result's value and all of F once its flags are written over `f`. -/
def ByteResult.over (r : ByteResult) (f : Byte) : ValueFlags := (r.value, writeFlags r.flags f)

/-- What an accumulator operation on `v` leaves in A and F (R130 to R138). -/
def accLeaves (op : AluOp) (v : Byte) (s : State) : ValueFlags :=
  (aluResult op s.cpu.a v (flagOf .c s)).over s.cpu.f

theorem accWith_spec (op : AluOp) (v : Byte) {s t : State} (h : onlyRegs [] s t) (target : Word) (m : Nat) :
    (endAt target m (accWith op v t)).cpu.a = (accLeaves op v s).1 ∧
      onlyRegsAndFlags [.a] (accLeaves op v s).2 s (endAt target m (accWith op v t)) := by
  have hres : aluResult op t.cpu.a v (flagOf .c t) = aluResult op s.cpu.a v (flagOf .c s) := by
    obtain ⟨hr, hf, -⟩ := h
    rw [flagOf, flagOf, hf, ← getReg_a, hr .a List.not_mem_nil, getReg_a]
  rw [accWith, hres]
  exact ⟨rfl, (h.trans (onlyRegs_setReg ..)).flagsEnd _ target m⟩

theorem accOperand_spec (op : AluOp) (o : Operand8) (s : State) :
    ∃ t, accOperand op o s = .next t ∧ t.cpu.a = (accLeaves op (operandByte o s) s).1 ∧
      onlyRegsAndFlags [.a] (accLeaves op (operandByte o s) s).2 s t ∧
      goesOn 1 (if o = .atHL then 2 else 1) (operandDrawn o s) s t := by
  rw [← operandCycles_eq_ite, ← readOperand_value]
  obtain ⟨ha, hframe⟩ := accWith_spec op (readOperand o s).1 (onlyRegs_readOperand o s) (nextPC 1 _) (operandCycles o 1 2)
  exact ⟨_, finish_eq .., ha, hframe, goesOn_endAt (by simp [accWith, putAcc]) (by simp [accWith, putAcc])⟩

theorem accImm_spec (op : AluOp) (d8 : Byte) (s : State) :
    ∃ t, accImm op d8 s = .next t ∧ t.cpu.a = (accLeaves op d8 s).1 ∧ onlyRegsAndFlags [.a] (accLeaves op d8 s).2 s t ∧
      goesOn 2 2 0 s t := by
  obtain ⟨ha, hframe⟩ := accWith_spec op d8 (onlyRegs_refl s) (nextPC 2 _) 2
  exact ⟨_, finish_eq .., ha, hframe, goesOn_endAt (by simp [accWith, putAcc]) (by simp [accWith, putAcc])⟩

/-- INC and DEC of an operand: one read, one write back, then the flags (R139 to R142). -/
theorem stepOperand_spec (step : Byte → ByteResult) (o : Operand8) {s : State} (hs : arraysOk s = true) :
    ∃ t, finish 1 (operandCycles o 1 3)
        (setFlags (step (readOperand o s).1).flags (writeOperand o (step (readOperand o s).1).value (readOperand o s).2)) =
          .next t ∧
      onlyOperand o ((step (operandByte o s)).over s.cpu.f).1 ((step (operandByte o s)).over s.cpu.f).2 s t ∧
      goesOn 1 (if o = .atHL then 3 else 1) (operandDrawn o s) s t := by
  rw [← operandCycles_eq_ite, readOperand_value]
  have hs' : arraysOk (readOperand o s).2 = true := (arraysOk_readOperand o s).trans hs
  have hop := (onlyRegs_readOperand o s).trans_onlyOperand (onlyOperand_writeOperand o (step (operandByte o s)).value hs')
  rw [readOperand_cpu] at hop
  exact ⟨_, finish_eq .., hop.flagsEnd .., goesOn_endAt (by simp) (by simp)⟩

/-! ### Results as the spec computes them -/

/-- Masking with 0x0F is the remainder by 16. -/
theorem and_lowNibble_toNat (v : Byte) : (v &&& 0x0F).toNat = v.toNat % 16 := Nat.and_two_pow_sub_one_eq_mod v.toNat 4

theorem addBytes_over (a v : Byte) (k : Bool) {f : Byte} (hf : f &&& 0x0F = 0x00) :
    (addBytes a v k).over f = specAdd a v (bitNat k) := by
  rw [ByteResult.over, writeFlags_eq_packFlags _ hf]
  rfl

/-- The borrow that `subBytes` adds 0x200 for is the sign of the spec's integer difference (R133, R134). -/
theorem subBytes_over (a v : Byte) (k : Bool) {f : Byte} (hf : f &&& 0x0F = 0x00) :
    (subBytes a v k).over f = specSub a v (bitNat k) := by
  have ha := a.isLt
  have hv := v.isLt
  have hk : bitNat k ≤ 1 := by cases k <;> decide
  rw [ByteResult.over, writeFlags_eq_packFlags _ hf]
  refine Prod.ext (BitVec.eq_of_toNat_eq ?value) (packFlags_congr ?zero ?half ?borrow)
  case value => simp only [subBytes, specSub, BitVec.toNat_ofNat, BitVec.toNat_ofInt]; omega
  case zero => exact decide_eq_decide.2 (by omega)
  case half => exact decide_eq_decide.2 (by omega)
  case borrow => exact decide_eq_decide.2 (by omega)

/-- CP leaves A and the flags of SUB (R138). -/
theorem accLeaves_cp (v : Byte) {s : State} (hs : flagsOk s = true) :
    accLeaves .cp v s = (s.cpu.a, (specSub s.cpu.a v 0).2) :=
  congrArg (s.cpu.a, Prod.snd ·) (subBytes_over s.cpu.a v false (lowNibble_of_flagsOk hs))

theorem logicByte_over (t : Byte) (h : Bool) {f : Byte} (hf : f &&& 0x0F = 0x00) : (logicByte t h).over f = specLogic t h := by
  rw [ByteResult.over, writeFlags_eq_packFlags _ hf]
  rfl

theorem incByte_over (v : Byte) {f : Byte} (hf : f &&& 0x0F = 0x00) : (incByte v).over f = specInc v (testFlag .c f) := by
  have hlow := and_lowNibble_toNat v
  rw [ByteResult.over, writeFlags_eq_packFlags _ hf]
  refine Prod.ext ?value (packFlags_congr ?zero ?half rfl)
  case value => simp only [incByte, specInc]; bv_omega
  case zero => exact decide_eq_decide.2 (by bv_omega)
  case half => exact decide_eq_decide.2 (by bv_omega)

theorem decByte_over (v : Byte) {f : Byte} (hf : f &&& 0x0F = 0x00) : (decByte v).over f = specDec v (testFlag .c f) := by
  have hlow := and_lowNibble_toNat v
  rw [ByteResult.over, writeFlags_eq_packFlags _ hf]
  refine Prod.ext (BitVec.eq_of_toNat_eq ?value) (packFlags_congr ?zero ?half rfl)
  case value =>
    have hone : (1 : Byte).toNat = 1 := rfl
    simp only [decByte, specDec, BitVec.toNat_sub, BitVec.toNat_ofInt]
    omega
  case zero => exact decide_eq_decide.2 (by bv_omega)
  case half => exact decide_eq_decide.2 (by bv_omega)

/-! ### The encodings -/

/-- The code of an accumulator operation (30_encoding.md R68). -/
def aluCode : AluOp → Nat
  | .add => 0
  | .adc => 1
  | .sub => 2
  | .sbc => 3
  | .and => 4
  | .xor => 5
  | .or => 6
  | .cp => 7

theorem encode_aluForm (op : AluOp) (o : Operand8) :
    encode (aluForm op o) = [opcode (0x80 + 8 * aluCode op + operandCode o)] := by
  rcases o with r | _
  · cases op <;> cases r <;> rfl
  · cases op <;> rfl

theorem encode_aluImmForm (op : AluOp) (d8 : Byte) : encode (aluImmForm op d8) = [opcode (0xC6 + 8 * aluCode op), d8] := by
  cases op <;> rfl

theorem encode_incForm (o : Operand8) : encode (incForm o) = [opcode (0x04 + 8 * operandCode o)] := by
  rcases o with r | _
  · cases r <;> rfl
  · rfl

theorem encode_decForm (o : Operand8) : encode (decForm o) = [opcode (0x05 + 8 * operandCode o)] := by
  rcases o with r | _
  · cases r <;> rfl
  · rfl

/-! ### The statements -/

/-- An accumulator operation in its three forms (R130), by what it leaves in A and F for each value of the operand. -/
theorem accumulatorForms (op : AluOp) (s : State) {leaves : Byte → ValueFlags} (h : ∀ v, accLeaves op v s = leaves v) :
    (∀ o, encode (aluForm op o) = [opcode (0x80 + 8 * aluCode op + operandCode o)] ∧
      ∃ t, exec (aluForm op o) s = .next t ∧ t.cpu.a = (leaves (operandByte o s)).1 ∧
        onlyRegsAndFlags [.a] (leaves (operandByte o s)).2 s t ∧
        goesOn 1 (if o = .atHL then 2 else 1) (operandDrawn o s) s t) ∧
    (∀ d8, encode (aluImmForm op d8) = [opcode (0xC6 + 8 * aluCode op), d8] ∧
      ∃ t, exec (aluImmForm op d8) s = .next t ∧ t.cpu.a = (leaves d8).1 ∧ onlyRegsAndFlags [.a] (leaves d8).2 s t ∧
        goesOn 2 2 0 s t) := by
  obtain rfl : (accLeaves op · s) = leaves := funext h
  refine ⟨fun o => ⟨encode_aluForm op o, ?_⟩, fun d8 => ⟨encode_aluImmForm op d8, ?_⟩⟩
  · rw [exec_aluForm]; exact accOperand_spec op o s
  · rw [exec_aluImmForm]; exact accImm_spec op d8 s

/-- Settles O43: both operations are `addBytes`, with no carry and with the C flag. -/
theorem addToAccumulator : Obligations.AddToAccumulator := by
  intro op code k s hs hmem
  have hf := lowNibble_of_flagsOk hs
  simp only [List.mem_cons, List.not_mem_nil, or_false, Prod.mk.injEq] at hmem
  rcases hmem with ⟨rfl, rfl, rfl⟩ | ⟨rfl, rfl, rfl⟩
  · exact accumulatorForms .add s fun v => addBytes_over s.cpu.a v false hf
  · exact accumulatorForms .adc s fun v => addBytes_over s.cpu.a v (flagOf .c s) hf

/-- Settles O44: SUB and SBC are `subBytes`, with no borrow and with the C flag, and CP its flags alone. -/
theorem subtractFromAccumulator : Obligations.SubtractFromAccumulator := by
  intro op code k s hs hmem
  have hf := lowNibble_of_flagsOk hs
  simp only [List.mem_cons, List.not_mem_nil, or_false, Prod.mk.injEq] at hmem
  rcases hmem with ⟨rfl, rfl, rfl⟩ | ⟨rfl, rfl, rfl⟩ | ⟨rfl, rfl, rfl⟩
  · exact accumulatorForms .sub s fun v => subBytes_over s.cpu.a v false hf
  · exact accumulatorForms .sbc s fun v => subBytes_over s.cpu.a v (flagOf .c s) hf
  · exact accumulatorForms .cp s fun v => accLeaves_cp v hs

/-- Settles O45: each operation is `logicByte` of its bitwise result, with H for AND alone. -/
theorem logicOnAccumulator : Obligations.LogicOnAccumulator := by
  intro op code f s hs hop
  have hf := lowNibble_of_flagsOk hs
  rcases hop with ⟨rfl, rfl, rfl⟩ | ⟨rfl, rfl, rfl⟩ | ⟨rfl, rfl, rfl⟩
  · exact accumulatorForms .and s fun v => logicByte_over (s.cpu.a &&& v) true hf
  · exact accumulatorForms .xor s fun v => logicByte_over (s.cpu.a ^^^ v) false hf
  · exact accumulatorForms .or s fun v => logicByte_over (s.cpu.a ||| v) false hf

/-- Settles O46: both read the operand and write it back, a byte at HL stored where it was read. -/
theorem incrementAndDecrementByte : Obligations.IncrementAndDecrementByte := by
  intro o s hs harr
  have hf := lowNibble_of_flagsOk hs
  refine ⟨⟨encode_incForm o, ?_⟩, ⟨encode_decForm o, ?_⟩⟩
  · rw [exec_incForm, flagOf_eq, ← incByte_over _ hf]; exact stepOperand_spec incByte o harr
  · rw [exec_decForm, flagOf_eq, ← decByte_over _ hf]; exact stepOperand_spec decByte o harr

/-- Settles O49: CPL writes A, and each of the three writes only the flags its update gives. -/
theorem complementAndCarryFlags : Obligations.ComplementAndCarryFlags := by
  intro s hs
  have hpack (u : FlagUpdate) := writeFlags_eq_packFlags u (lowNibble_of_flagsOk hs)
  refine ⟨⟨rfl, _, rfl, ?value, ?cpl, goesOn_endAt rfl rfl⟩, ⟨rfl, _, rfl, ?scf, goesOn_endAt rfl rfl⟩,
    ⟨rfl, _, rfl, ?ccf, goesOn_endAt rfl rfl⟩⟩
  case value => exact (congrArg BitVec.toNat BitVec.xor_allOnes).trans BitVec.toNat_not
  case cpl => exact hpack (cplByte s.cpu.a).flags ▸ (onlyRegs_setReg ..).flagsEnd ..
  case scf => exact hpack scfFlags ▸ (onlyRegs_refl s).flagsEnd ..
  case ccf => exact hpack (ccfFlags (flagOf .c s)) ▸ (onlyRegs_refl s).flagsEnd ..

end Sys2Proof.Machine
end

section
/-! PROOFS. 16-bit arithmetic (spec 43_alu16.md R150 to R152): the frame of a pair's write with flags, one rule for each shared operation
with the value as the spec computes it, then the encodings and the forms that call them. -/

namespace Sys2Proof.Machine

/-! ### The shared operations -/

/-- A flag update after a pair's write. -/
theorem onlyPair.trans_setFlags {p : Pair} {v : Word} {f : Byte} {s t : State} (h : onlyPair p v f s t) (u : FlagUpdate) :
    onlyPair p v (writeFlags u f) s (setFlags u t) := by
  obtain ⟨hp, hq, ha, hf, hime, hm, hg, -⟩ := h
  exact ⟨(getPair_setFlags ..).trans hp, fun q hne => (getPair_setFlags ..).trans (hq q hne), ha,
    congrArg (writeFlags u) hf, hime, keepsMemory_of_eq hm hg⟩

/-- Both operands are of the state before, so `ADD HL,HL` doubles HL (R150). -/
theorem addToHL_spec (p : Pair) (s : State) :
    ∃ t, addToHL p s = .next t ∧
      onlyPair .hl (addWords (getPair .hl s) (getPair p s)).value
        (writeFlags (addWords (getPair .hl s) (getPair p s)).flags s.cpu.f) s t ∧ goesOn 1 2 0 s t :=
  ⟨_, finish_eq .., ((onlyPair_setPair .hl _ s).trans_setFlags _).endAt .., goesOn_endAt (by simp) (by simp)⟩

/-- One pair's write by a one-byte form of two cycles, which INC and DEC share (R151, R152). -/
theorem finish_setPair_spec (p : Pair) (v : Word) (s : State) :
    ∃ t, finish 1 2 (setPair p v s) = .next t ∧ onlyPair p v s.cpu.f s t ∧ goesOn 1 2 0 s t :=
  ⟨_, finish_eq .., (onlyPair_setPair p v s).endAt .., goesOn_endAt (by simp) (by simp)⟩

/-! ### Pairs as the spec computes them, on unbounded integers -/

/-- A pair moved by a natural number wraps at 16 bits. -/
theorem ofNat_toNat_add (w : Word) (n : Nat) : BitVec.ofNat 16 (w.toNat + n) = w + BitVec.ofNat 16 n := by
  rw [BitVec.ofNat_add, BitVec.ofNat_toNat, BitVec.setWidth_eq]

/-- `0x0000` becomes `0xFFFF` (R151, R152): one less is 0xFFFF more. -/
theorem ofNat_toNat_add_0xFFFF (w : Word) : BitVec.ofNat 16 (w.toNat + 0xFFFF) = w - 1 :=
  (ofNat_toNat_add w 0xFFFF).trans (BitVec.sub_eq_add_neg w 1).symm

theorem incPair_spec (p : Pair) (s : State) :
    ∃ t, incPair p s = .next t ∧ onlyPair p (BitVec.ofNat 16 ((getPair p s).toNat + 1)) s.cpu.f s t ∧ goesOn 1 2 0 s t := by
  rw [ofNat_toNat_add]
  exact finish_setPair_spec p (getPair p s + 1) s

theorem decPair_spec (p : Pair) (s : State) :
    ∃ t, decPair p s = .next t ∧ onlyPair p (BitVec.ofNat 16 ((getPair p s).toNat + 0xFFFF)) s.cpu.f s t ∧
      goesOn 1 2 0 s t := by
  rw [ofNat_toNat_add_0xFFFF]
  exact finish_setPair_spec p (getPair p s - 1) s

/-! ### The encodings -/

theorem encode_addHLForm (p : Pair) : encode (addHLForm p) = [opcode (0x09 + 16 * pairCode p)] := by
  cases p <;> rfl

theorem encode_incPairForm (p : Pair) : encode (incPairForm p) = [opcode (0x03 + 16 * pairCode p)] := by
  cases p <;> rfl

theorem encode_decPairForm (p : Pair) : encode (decPairForm p) = [opcode (0x0B + 16 * pairCode p)] := by
  cases p <;> rfl

/-! ### The statements -/

/-- Settles O50: the sum and its carries are `addWords` of the two pairs before, and the update that leaves Z out packs to the old Z. -/
theorem addPairToHL : Obligations.AddPairToHL := by
  intro p s hs
  refine ⟨encode_addHLForm p, ?_⟩
  obtain ⟨t, hexec, hpair, hend⟩ := addToHL_spec p s
  rw [writeFlags_eq_packFlags _ (lowNibble_of_flagsOk hs)] at hpair
  exact ⟨t, (exec_addHLForm p s).trans hexec, hpair, hend⟩

/-- Settles O51: both are the write of their pair, one more or one less with wrap, and F is not among what they write. -/
theorem incrementAndDecrementPair : Obligations.IncrementAndDecrementPair := by
  refine fun p s => ⟨⟨encode_incPairForm p, ?inc⟩, ⟨encode_decPairForm p, ?dec⟩⟩
  case inc => rw [exec_incPairForm]; exact incPair_spec p s
  case dec => rw [exec_decPairForm]; exact decPair_spec p s

end Sys2Proof.Machine
end

section
/-! PROOFS. Rotates, shifts and SWAP (spec 44_rotate_shift.md R160 to R172): each result as the spec's number, one rule for each of the
two shared operations, then the encodings and the forms that call them. -/

namespace Sys2Proof.Machine

/-! ### Rotates by their numbers -/

theorem bitByte_toNat (b : Bool) : (bitByte b).toNat = bitNat b := by cases b <;> rfl

theorem bitNat_lt_two (b : Bool) : bitNat b < 2 := by cases b <;> decide

theorem shiftLeft_toNat_eq_mod (v : Byte) (k : Nat) : (v <<< k).toNat = v.toNat * 2 ^ k % 256 := by
  rw [BitVec.toNat_shiftLeft, Nat.shiftLeft_eq]

theorem ushiftRight_toNat_eq_div (v : Byte) (k : Nat) : (v >>> k).toNat = v.toNat / 2 ^ k := by
  rw [BitVec.toNat_ushiftRight, Nat.shiftRight_eq_div_pow]

theorem bitByte_shiftLeft_toNat (b : Bool) : (bitByte b <<< 7).toNat = bitNat b * 128 := by cases b <;> rfl

/-- The bit a left rotate or shift moves out is the number's half of the byte range. -/
theorem getLsbD_seven_eq_decide (v : Byte) : v.getLsbD 7 = decide (v.toNat / 128 = 1) := by
  have hv := v.isLt
  rw [← BitVec.testBit_toNat, Nat.testBit_eq_decide_div_mod_eq]
  exact decide_eq_decide.2 (by omega)

/-- The bit a right rotate or shift moves out is the number's parity. -/
theorem getLsbD_zero_eq_decide (v : Byte) : v.getLsbD 0 = decide (v.toNat % 2 = 1) := by
  rw [← BitVec.testBit_toNat, Nat.testBit_zero]

theorem bitNat_getLsbD_seven (v : Byte) : bitNat (v.getLsbD 7) = v.toNat / 128 := by
  have hv := v.isLt
  simp only [getLsbD_seven_eq_decide, bitNat, decide_eq_true_eq]
  split <;> omega

theorem bitNat_getLsbD_zero (v : Byte) : bitNat (v.getLsbD 0) = v.toNat % 2 := by
  simp only [getLsbD_zero_eq_decide, bitNat, decide_eq_true_eq]
  split <;> omega

/-- The sign bit alone, as SRA puts it back (R170). -/
theorem and_signBit (v : Byte) : v &&& (0x80 : Byte) = bitByte (v.getLsbD 7) <<< 7 :=
  (BitVec.and_twoPow v 7).trans (by cases v.getLsbD 7 <;> rfl)

/-- An `or` of bytes that share no bit is their sum: one is a multiple of a power of two that the other is below. -/
theorem or_toNat_of_lt {x y : Byte} (i : Nat) (hx : 2 ^ i ∣ x.toNat) (hy : y.toNat < 2 ^ i) :
    (x ||| y).toNat = x.toNat + y.toNat := by
  obtain ⟨a, ha⟩ := hx
  rw [BitVec.toNat_or, ha, Nat.two_pow_add_eq_or_of_lt hy]

/-- One place to the left, with the bit `b` moved in at the bottom. -/
theorem shiftLeft_or_bit_toNat (v : Byte) (b : Bool) : ((v <<< 1) ||| bitByte b).toNat = v.toNat * 2 % 256 + bitNat b := by
  have hv : (v <<< 1).toNat = v.toNat * 2 % 256 := shiftLeft_toNat_eq_mod v 1
  have hb := bitByte_toNat b
  have hlt := bitNat_lt_two b
  rw [or_toNat_of_lt 1 (by omega) (by omega), hv, hb]

/-- One place to the right, with the bit `b` moved in at the top. -/
theorem ushiftRight_or_bit_toNat (v : Byte) (b : Bool) :
    ((v >>> 1) ||| (bitByte b <<< 7)).toNat = v.toNat / 2 + bitNat b * 128 := by
  have hv : (v >>> 1).toNat = v.toNat / 2 := ushiftRight_toNat_eq_div v 1
  have hb := bitByte_shiftLeft_toNat b
  have hlt := v.isLt
  rw [BitVec.or_comm, or_toNat_of_lt 7 (by omega) (by omega), hv, hb, Nat.add_comm]

/-- One place to the right, with bit 7 kept (R170). -/
theorem sra_toNat (v : Byte) : ((v >>> 1) ||| (v &&& 0x80)).toNat = v.toNat / 2 + v.toNat / 128 * 128 := by
  rw [and_signBit, ushiftRight_or_bit_toNat, bitNat_getLsbD_seven]

/-- The low nibble moved up and the high nibble moved down (R171). -/
theorem swap_toNat (v : Byte) : ((v <<< 4) ||| (v >>> 4)).toNat = v.toNat % 16 * 16 + v.toNat / 16 := by
  have hlow := shiftLeft_toNat_eq_mod v 4
  have hhigh := ushiftRight_toNat_eq_div v 4
  have hlt := v.isLt
  rw [or_toNat_of_lt 4 (by omega) (by omega)]
  omega

/-- Each operation's byte is the spec's number, for every byte and carry (R160 to R163, R165 to R172). -/
theorem rotated_value (op : RotOp) (v : Byte) (k : Bool) : (rotated op v k).1.toNat = (specRotate op v (bitNat k)).1 := by
  cases op with
  | rlc => simp only [rotated, specRotate, shiftLeft_or_bit_toNat, bitNat_getLsbD_seven]
  | rrc => simp only [rotated, specRotate, ushiftRight_or_bit_toNat, bitNat_getLsbD_zero]
  | rl => exact shiftLeft_or_bit_toNat v k
  | rr => exact ushiftRight_or_bit_toNat v k
  | sla => exact shiftLeft_toNat_eq_mod v 1
  | sra => exact sra_toNat v
  | swap => exact swap_toNat v
  | srl => exact ushiftRight_toNat_eq_div v 1

/-- To the left bit 7 moves into C and to the right bit 0; SWAP moves none. -/
theorem rotated_carry (op : RotOp) (v : Byte) (k : Bool) : (rotated op v k).2 = (specRotate op v (bitNat k)).2 := by
  cases op with
  | rlc | rl | sla => exact getLsbD_seven_eq_decide v
  | rrc | rr | sra | srl => exact getLsbD_zero_eq_decide v
  | swap => rfl

/-- The extended forms set Z from the result (R164). -/
theorem rotResult_over (op : RotOp) (v : Byte) (k : Bool) {f : Byte} (hf : f &&& 0x0F = 0x00) :
    (rotResult op v k).over f = (BitVec.ofNat 8 (specRotate op v (bitNat k)).1,
      packFlags (decide ((specRotate op v (bitNat k)).1 = 0)) false false (specRotate op v (bitNat k)).2) := by
  rw [ByteResult.over, writeFlags_eq_packFlags _ hf, ← rotated_value, ← rotated_carry, BitVec.ofNat_toNat, BitVec.setWidth_eq]
  exact Prod.ext rfl (packFlags_congr (decide_eq_decide.2 (BitVec.toNat_inj (y := 0)).symm) rfl rfl)

/-- The accumulator forms clear Z (R160 to R163). -/
theorem rotAccResult_flags (op : RotOp) (v : Byte) (k : Bool) {f : Byte} (hf : f &&& 0x0F = 0x00) :
    writeFlags (rotAccResult op v k).flags f = packFlags false false false (specRotate op v (bitNat k)).2 := by
  rw [writeFlags_eq_packFlags _ hf, ← rotated_carry]
  rfl

/-! ### The shared operations -/

theorem rotAcc_spec (op : RotOp) (s : State) (hs : flagsOk s = true) :
    ∃ t, rotAcc op s = .next t ∧ t.cpu.a.toNat = (specRotate op s.cpu.a (flagNat .c s)).1 ∧
      onlyRegsAndFlags [.a] (packFlags false false false (specRotate op s.cpu.a (flagNat .c s)).2) s t ∧ goesOn 1 1 0 s t := by
  refine ⟨_, finish_eq .., ?value, ?frame, goesOn_endAt rfl rfl⟩
  case value => exact rotated_value op s.cpu.a (flagOf .c s)
  case frame =>
    exact rotAccResult_flags op s.cpu.a (flagOf .c s) (lowNibble_of_flagsOk hs) ▸ (onlyRegs_setReg ..).flagsEnd ..

/-- An operand read and then written, a byte at HL stored where it was read. -/
theorem onlyOperand_writeOperand_readOperand (o : Operand8) (v : Byte) {s : State} (hs : arraysOk s = true) :
    onlyOperand o v s.cpu.f s (writeOperand o v (readOperand o s).2) := by
  have hs' : arraysOk (readOperand o s).2 = true := (arraysOk_readOperand o s).trans hs
  exact readOperand_cpu o s ▸ (onlyRegs_readOperand o s).trans_onlyOperand (onlyOperand_writeOperand o v hs')

theorem rotOperand_spec (op : RotOp) (o : Operand8) {s : State} (hs : arraysOk s = true) :
    ∃ t, rotOperand op o s = .next t ∧
      onlyOperand o ((rotResult op (operandByte o s) (flagOf .c s)).over s.cpu.f).1
        ((rotResult op (operandByte o s) (flagOf .c s)).over s.cpu.f).2 s t ∧
      goesOn 2 (if o = .atHL then 4 else 2) (operandDrawn o s) s t := by
  rw [rotOperand, ← operandCycles_eq_ite, readOperand_value]
  exact ⟨_, finish_eq .., (onlyOperand_writeOperand_readOperand o _ hs).flagsEnd .., goesOn_endAt (by simp) (by simp)⟩

/-! ### The encodings -/

theorem encode_rotForm (op : RotOp) (o : Operand8) :
    encode (rotForm op o) = [0xCB, opcode (8 * rotCode op + operandCode o)] := by
  rcases o with r | _
  · cases op <;> cases r <;> rfl
  · cases op <;> rfl

/-! ### The statements -/

/-- Settles O52: the four forms are `rotAcc` of their operations, whose flags leave Z clear whatever the result. -/
theorem rotateAccumulator : Obligations.RotateAccumulator := by
  intro i op code s hs hmem
  have hform : encode i = [code] ∧ exec i s = rotAcc op s := by
    simp only [List.mem_cons, List.not_mem_nil, or_false, Prod.mk.injEq] at hmem
    rcases hmem with ⟨rfl, rfl, rfl⟩ | ⟨rfl, rfl, rfl⟩ | ⟨rfl, rfl, rfl⟩ | ⟨rfl, rfl, rfl⟩ <;> exact ⟨rfl, rfl⟩
  obtain ⟨hencode, hexec⟩ := hform
  rw [hexec]
  exact ⟨hencode, rotAcc_spec op s hs⟩

/-- Settles O53: the 64 forms are `rotOperand`, which writes its operand back and packs F from the result and the bit moved out. -/
theorem rotateAndShift : Obligations.RotateAndShift := by
  intro op o s hs harr
  have hresult := rotResult_over op (operandByte o s) (flagOf .c s) (lowNibble_of_flagsOk hs)
  obtain ⟨t, hexec, hop, hend⟩ := rotOperand_spec op o harr
  rw [hresult] at hop
  exact ⟨encode_rotForm op o, t, (exec_rotForm op o s).trans hexec, hop, hend⟩

end Sys2Proof.Machine
end

section
/-! PROOFS. Bit test, reset and set (spec 45_bit.md R180 to R185): the mask of one bit and what each operation does bit by bit, one
rule for the test and one for the write of an operand read before, then the encodings and the forms that call them. -/

namespace Sys2Proof.Machine

/-! ### One bit of a byte -/

/-- The mask `1 << b` holds bit `b` alone. -/
theorem getLsbD_bitMask (b k : Fin 8) : ((1 : Byte) <<< b.val).getLsbD k.val = decide (k = b) := by
  rw [show (1 : Byte) <<< b.val = BitVec.twoPow 8 b.val from (BitVec.twoPow_eq 8 b.val).symm, BitVec.getLsbD_twoPow]
  simp [Fin.ext_iff, eq_comm]

/-- RES clears bit `b` and keeps the others (R182). -/
theorem getLsbD_bitReset (b k : Fin 8) (v : Byte) : (bitReset b v).getLsbD k.val = (v.getLsbD k.val && decide (k ≠ b)) := by
  have hmask : bitReset b v = v &&& ~~~ ((1 : Byte) <<< b.val) := BitVec.and_allOnes
  simp only [hmask, BitVec.getLsbD_and, BitVec.getLsbD_not, getLsbD_bitMask, k.isLt, decide_true, Bool.true_and, decide_not]

/-- SET sets bit `b` and keeps the others (R184). -/
theorem getLsbD_bitSet (b k : Fin 8) (v : Byte) : (bitSet b v).getLsbD k.val = (v.getLsbD k.val || decide (k = b)) := by
  rw [bitSet, BitVec.getLsbD_or, getLsbD_bitMask]

/-- BIT shifts the tested bit to the bottom and compares it with zero (R180). -/
theorem ushiftRight_and_one_beq_zero (v : Byte) (n : Nat) : ((v >>> n) &&& 1 == 0) = !v.getLsbD n := by
  have hbit : (v >>> n) &&& 1 = bitByte (v.getLsbD n) := by
    rw [show (v >>> n) &&& 1 = _ from BitVec.and_one_eq_setWidth_ofBool_getLsbD, BitVec.getLsbD_ushiftRight, Nat.add_zero]
    cases v.getLsbD n <;> rfl
  rw [hbit]
  cases v.getLsbD n <;> rfl

theorem writeFlags_bitTestFlags (b : Fin 8) (v : Byte) {f : Byte} (hf : f &&& 0x0F = 0x00) :
    writeFlags (bitTestFlags b v) f = packFlags (!v.getLsbD b.val) false true (testFlag .c f) := by
  rw [writeFlags_eq_packFlags _ hf, ← ushiftRight_and_one_beq_zero]
  rfl

/-! ### The shared operations -/

theorem testOperand_spec (b : Fin 8) (o : Operand8) (s : State) :
    ∃ t, testOperand b o s = .next t ∧ onlyRegsAndFlags [] (writeFlags (bitTestFlags b (operandByte o s)) s.cpu.f) s t ∧
      goesOn 2 (if o = .atHL then 4 else 2) (operandDrawn o s) s t := by
  rw [testOperand, ← operandCycles_eq_ite, readOperand_value]
  exact ⟨_, finish_eq .., (onlyRegs_readOperand o s).flagsEnd .., goesOn_endAt (by simp) (by simp)⟩

/-- The end of an instruction is no part of an operand's frame. -/
theorem onlyOperand.endAt {o : Operand8} {v f : Byte} {s t : State} (h : onlyOperand o v f s t) (target : Word) (m : Nat) :
    onlyOperand o v f s (endAt target m t) :=
  h.1 ▸ h.trans_onlyRegsAndFlags (onlyRegs_endAt target m t)

/-- One read and one write back with no flag, which RES and SET share (R182 to R185). -/
theorem finish_writeOperand_spec (o : Operand8) (v : Byte) {s : State} (hs : arraysOk s = true) :
    ∃ t, finish 2 (operandCycles o 2 4) (writeOperand o v (readOperand o s).2) = .next t ∧ onlyOperand o v s.cpu.f s t ∧
      goesOn 2 (if o = .atHL then 4 else 2) (operandDrawn o s) s t := by
  rw [← operandCycles_eq_ite]
  exact ⟨_, finish_eq .., (onlyOperand_writeOperand_readOperand o v hs).endAt .., goesOn_endAt (by simp) (by simp)⟩

theorem resetOperand_spec (b : Fin 8) (o : Operand8) {s : State} (hs : arraysOk s = true) :
    ∃ t, resetOperand b o s = .next t ∧ onlyOperand o (bitReset b (operandByte o s)) s.cpu.f s t ∧
      goesOn 2 (if o = .atHL then 4 else 2) (operandDrawn o s) s t := by
  rw [resetOperand, readOperand_value]
  exact finish_writeOperand_spec o _ hs

theorem setOperand_spec (b : Fin 8) (o : Operand8) {s : State} (hs : arraysOk s = true) :
    ∃ t, setOperand b o s = .next t ∧ onlyOperand o (bitSet b (operandByte o s)) s.cpu.f s t ∧
      goesOn 2 (if o = .atHL then 4 else 2) (operandDrawn o s) s t := by
  rw [setOperand, readOperand_value]
  exact finish_writeOperand_spec o _ hs

/-! ### The encodings -/

theorem encode_bitForm (b : Fin 8) (o : Operand8) :
    encode (bitForm b o) = [0xCB, opcode (0x40 + 8 * b.val + operandCode o)] := by
  rcases o with r | _
  · fin_cases b <;> cases r <;> rfl
  · fin_cases b <;> rfl

theorem encode_resForm (b : Fin 8) (o : Operand8) :
    encode (resForm b o) = [0xCB, opcode (0x80 + 8 * b.val + operandCode o)] := by
  rcases o with r | _
  · fin_cases b <;> cases r <;> rfl
  · fin_cases b <;> rfl

theorem encode_setForm (b : Fin 8) (o : Operand8) :
    encode (setForm b o) = [0xCB, opcode (0xC0 + 8 * b.val + operandCode o)] := by
  rcases o with r | _
  · fin_cases b <;> cases r <;> rfl
  · fin_cases b <;> rfl

/-! ### The statements -/

/-- Settles O54: the 64 forms are `testOperand`, a read and a flag update that leaves C out, so it packs to the old C. -/
theorem testBit : Obligations.TestBit := by
  intro b o s hs
  obtain ⟨t, hexec, hframe, hend⟩ := testOperand_spec b o s
  rw [writeFlags_bitTestFlags _ _ (lowNibble_of_flagsOk hs)] at hframe
  exact ⟨encode_bitForm b o, t, (exec_bitForm b o s).trans hexec, hframe, hend⟩

/-- Settles O55: both write back the operand they read, with one bit masked out or in, and F is not among what they write. -/
theorem resetAndSetBit : Obligations.ResetAndSetBit := by
  intro b o s hs
  refine ⟨⟨encode_resForm b o, ?reset⟩, ⟨encode_setForm b o, ?set⟩⟩
  case reset =>
    obtain ⟨t, hexec, hop, hend⟩ := resetOperand_spec b o hs
    exact ⟨t, _, (exec_resForm b o s).trans hexec, fun k => getLsbD_bitReset b k _, hop, hend⟩
  case set =>
    obtain ⟨t, hexec, hop, hend⟩ := setOperand_spec b o hs
    exact ⟨t, _, (exec_setForm b o s).trans hexec, fun k => getLsbD_bitSet b k _, hop, hend⟩

end Sys2Proof.Machine
end

section
/-! PROOFS. Control transfer (spec 46_control_transfer.md R190 to R201): the condition and the relative target as the spec computes them,
one rule for each shared operation, then the encodings and the forms that call them. -/

namespace Sys2Proof.Machine

/-! ### Conditions and targets as the spec computes them -/

/-- `cond(cc)` reads bit 7 or bit 4 of F (R190). -/
theorem cond_eq_specCond (cc : Cond) (s : State) : cond cc s = specCond cc s.cpu.f := by
  have hz : flagOf .z s = s.cpu.f.getLsbD 7 := testFlag_eq_bit .z s.cpu.f
  have hc : flagOf .c s = s.cpu.f.getLsbD 4 := testFlag_eq_bit .c s.cpu.f
  cases cc with
  | nz | z => simp only [cond, specCond, hz]
  | nc | c => simp only [cond, specCond, hc]

/-- `sext_8` is the byte as two's complement, reduced to 16 bits (30_encoding.md R71). -/
theorem sext8_eq_ofInt (e : Byte) :
    sext8 e = BitVec.ofInt 16 (if e.toNat < 128 then (e.toNat : Int) else (e.toNat : Int) - 256) := by
  have hsigned : e.toInt = if e.toNat < 128 then (e.toNat : Int) else (e.toNat : Int) - 256 := by
    rw [BitVec.toInt_eq_toNat_cond]
    exact if_congr (by omega) rfl rfl
  rw [← hsigned]
  rfl

/-- The base of a relative jump is the instruction after it, and the target wraps (R194). -/
theorem relativeTarget_eq_specRelative (e8 : Byte) (s : State) : relativeTarget e8 s = specRelative s.cpu.pc e8 := by
  rw [specRelative, Int.add_assoc, ofInt_toNat_add, BitVec.ofInt_add, ← sext8_eq_ofInt, ← BitVec.add_assoc]
  rfl

/-! ### Jumps -/

theorem jumpTo_spec (target : Word) (m : Nat) (s : State) :
    ∃ t, jumpTo target m s = .next t ∧ onlyRegs [] s t ∧ endsAt target m 0 s t :=
  ⟨_, jumpTo_eq .., onlyRegs_endAt target m s, rfl, rfl, rfl⟩

/-- A transfer not taken changes PC alone (R190). -/
theorem finish_spec (len m : Nat) (s : State) :
    ∃ t, finish len m s = .next t ∧ onlyRegs [] s t ∧ goesOn len m 0 s t :=
  jumpTo_spec (nextPC len s) m s

theorem absJumpIf_spec (cc : Cond) (a16 : Word) (s : State) :
    ∃ t, absJumpIf cc a16 s = .next t ∧ onlyRegs [] s t ∧
      if specCond cc s.cpu.f then endsAt a16 4 0 s t else goesOn 3 3 0 s t := by
  rw [absJumpIf, cond_eq_specCond]
  cases specCond cc s.cpu.f with
  | true => exact jumpTo_spec a16 4 s
  | false => exact finish_spec 3 3 s

theorem relJumpIf_spec (cc : Cond) (e8 : Byte) (s : State) :
    ∃ t, relJumpIf cc e8 s = .next t ∧ onlyRegs [] s t ∧
      if specCond cc s.cpu.f then endsAt (specRelative s.cpu.pc e8) 3 0 s t else goesOn 2 2 0 s t := by
  rw [relJumpIf, cond_eq_specCond, relativeTarget_eq_specRelative]
  cases specCond cc s.cpu.f with
  | true => exact jumpTo_spec _ 3 s
  | false => exact finish_spec 2 2 s

/-! ### Calls -/

theorem callTo_spec (target : Word) (len m : Nat) {s : State} (hs : arraysOk s = true) :
    ∃ t, callTo target len m s = .next t ∧ onlyPushes (nextPC len s) s t ∧ endsAt target m 0 s t := by
  obtain ⟨-, -, hdraws, -⟩ := push16_spec (nextPC len s) s
  exact ⟨_, jumpTo_eq .., (onlyPushes_push16 _ hs).endAt target m, rfl, rfl, hdraws⟩

theorem callIf_spec (cc : Cond) (a16 : Word) {s : State} (hs : arraysOk s = true) :
    ∃ t, callIf cc a16 s = .next t ∧
      if specCond cc s.cpu.f then onlyPushes (nextPC 3 s) s t ∧ endsAt a16 6 0 s t
      else onlyRegs [] s t ∧ goesOn 3 3 0 s t := by
  rw [callIf, cond_eq_specCond]
  cases specCond cc s.cpu.f with
  | true => exact callTo_spec a16 3 6 hs
  | false => exact finish_spec 3 3 s

/-! ### Returns -/

/-- RET and RETI differ in what they leave in IME (R198, R200). -/
theorem jumpTo_pop16_spec (v : Bool) (m : Nat) (s : State) :
    ∃ t, jumpTo (pop16 s).1 m (setIME v (pop16 s).2) = .next t ∧ t.cpu.sp = s.cpu.sp + 2 ∧ t.cpu.ime = v ∧
      keepsRegs [] s t ∧ t.cpu.f = s.cpu.f ∧ keepsMemory s t ∧
      endsAt (wordRead s s.cpu.sp) m (wordDrawn s s.cpu.sp) s t :=
  ⟨_, jumpTo_eq .., by simp, rfl, fun q _ => by simp, by simp, keepsMemory_of_eq (by simp) (by simp),
    pop16_value s, rfl, pop16_draws s⟩

/-- A pop leaves IME alone, so writing its old value back after one changes nothing. -/
theorem setIME_pop16_self (s : State) : setIME s.cpu.ime (pop16 s).2 = (pop16 s).2 := by
  have hime : s.cpu.ime = (pop16 s).2.cpu.ime := by simp
  rw [hime]
  rfl

theorem returnTo_spec (m : Nat) (s : State) :
    ∃ t, returnTo m s = .next t ∧ t.cpu.sp = s.cpu.sp + 2 ∧ t.cpu.ime = s.cpu.ime ∧
      keepsRegs [] s t ∧ t.cpu.f = s.cpu.f ∧ keepsMemory s t ∧
      endsAt (wordRead s s.cpu.sp) m (wordDrawn s s.cpu.sp) s t := by
  rw [returnTo, ← setIME_pop16_self]
  exact jumpTo_pop16_spec s.cpu.ime m s

theorem returnIf_spec (cc : Cond) (s : State) :
    ∃ t, returnIf cc s = .next t ∧ t.cpu.ime = s.cpu.ime ∧ keepsRegs [] s t ∧ t.cpu.f = s.cpu.f ∧ keepsMemory s t ∧
      if specCond cc s.cpu.f then t.cpu.sp = s.cpu.sp + 2 ∧ endsAt (wordRead s s.cpu.sp) 5 (wordDrawn s s.cpu.sp) s t
      else t.cpu.sp = s.cpu.sp ∧ goesOn 1 2 0 s t := by
  rw [returnIf, cond_eq_specCond]
  cases specCond cc s.cpu.f with
  | true =>
    obtain ⟨t, hexec, hsp, hime, hregs, hf, hmem, hend⟩ := returnTo_spec 5 s
    exact ⟨t, hexec, hime, hregs, hf, hmem, hsp, hend⟩
  | false =>
    obtain ⟨t, hexec, ⟨hregs, hf, hsp, hime, hmem⟩, hend⟩ := finish_spec 1 2 s
    exact ⟨t, hexec, hime, hregs, hf, hmem, hsp, hend⟩

/-! ### The encodings -/

theorem encode_jpCondForm (cc : Cond) (a16 : Word) :
    encode (jpCondForm cc a16) = [opcode (0xC2 + 8 * condCode cc), lowByte a16, highByte a16] := by
  cases cc <;> rfl

theorem encode_jrCondForm (cc : Cond) (e8 : Byte) : encode (jrCondForm cc e8) = [opcode (0x20 + 8 * condCode cc), e8] := by
  cases cc <;> rfl

theorem encode_callCondForm (cc : Cond) (a16 : Word) :
    encode (callCondForm cc a16) = [opcode (0xC4 + 8 * condCode cc), lowByte a16, highByte a16] := by
  cases cc <;> rfl

theorem encode_retCondForm (cc : Cond) : encode (retCondForm cc) = [opcode (0xC0 + 8 * condCode cc)] := by
  cases cc <;> rfl

theorem encode_rstForm (n : Fin 8) : encode (rstForm n) = [opcode (0xC7 + 8 * n.val)] := by
  fin_cases n <;> rfl

/-! ### The statements -/

/-- Settles O56: each form is `jumpTo`, the conditional ones under their condition, and JP HL reads the pair and no memory. -/
theorem absoluteJumps : Obligations.AbsoluteJumps := by
  refine ⟨fun a16 s => ⟨rfl, ?jump⟩, fun cc a16 s => ⟨encode_jpCondForm cc a16, ?cond⟩, fun s => ⟨rfl, ?jumpHL⟩⟩
  case jump => exact jumpTo_spec a16 4 s
  case cond => rw [exec_jpCondForm]; exact absJumpIf_spec cc a16 s
  case jumpHL => exact jumpTo_spec (getPair .hl s) 1 s

/-- Settles O57: the target of `jumpTo` is the spec's integer sum reduced to 16 bits. -/
theorem relativeJumps : Obligations.RelativeJumps := by
  refine ⟨fun e8 s => ⟨rfl, ?jump⟩, fun cc e8 s => ⟨encode_jrCondForm cc e8, ?cond⟩⟩
  case jump => rw [← relativeTarget_eq_specRelative]; exact jumpTo_spec (relativeTarget e8 s) 3 s
  case cond => rw [exec_jrCondForm]; exact relJumpIf_spec cc e8 s

/-- Settles O58: the calls and the restarts are one push of the next address and a jump, at a length of three bytes or one. -/
theorem callsAndRestarts : Obligations.CallsAndRestarts := by
  refine ⟨fun a16 s hs => ⟨rfl, ?call⟩, fun cc a16 s hs => ⟨encode_callCondForm cc a16, ?cond⟩,
    fun n s hs => ⟨encode_rstForm n, ?restart⟩⟩
  case call => exact callTo_spec a16 3 6 hs
  case cond => rw [exec_callCondForm]; exact callIf_spec cc a16 hs
  case restart => rw [exec_rstForm]; exact callTo_spec (BitVec.ofNat 16 (8 * n.val)) 1 4 hs

/-- Settles O59: each return taken is one pop into PC, which RETI alone follows by a write of IME. -/
theorem returns : Obligations.Returns := by
  refine ⟨fun i op s hmem => ?plain, fun cc s => ⟨encode_retCondForm cc, ?cond⟩⟩
  case plain =>
    simp only [List.mem_cons, List.not_mem_nil, or_false, Prod.mk.injEq] at hmem
    rcases hmem with ⟨rfl, rfl⟩ | ⟨rfl, rfl⟩
    · exact ⟨rfl, returnTo_spec 4 s⟩
    · exact ⟨rfl, jumpTo_pop16_spec true 4 s⟩
  case cond => rw [exec_retCondForm]; exact returnIf_spec cc s

end Sys2Proof.Machine
end

section
/-! PROOFS. The illegal opcodes (spec 47_misc_control.md R216): the fetch of a one-byte instruction, what an illegal opcode decodes to and
executes as, and the step that fetches one. -/

namespace Sys2Proof.Machine

/-- A fetch whose first byte is a whole instruction reads nothing after it (30_encoding.md R79). -/
theorem fetchInstr_of_instrLength_one {s : State} (h : instrLength (byteRead s.draws s s.cpu.pc) = 1) :
    fetchInstr s = ([byteRead s.draws s s.cpu.pc], (read8 s.cpu.pc s).2) := by
  rw [fetchInstr, read8_value, h]
  rfl

/-! ### The eleven opcodes -/

theorem instrLength_of_illegal : ∀ op ∈ illegalOpcodes, instrLength op = 1 := by decide

/-- The bytes after an illegal opcode are left unread (R216). -/
theorem decode_illegal {op : Byte} (hop : op ∈ illegalOpcodes) (rest : List Byte) :
    decode (op :: rest) = .ok (baseInstr op 0 0, rest) :=
  decode_one rest (instrLength_of_illegal op hop)

theorem exec_baseInstr_illegal {op : Byte} (hop : op ∈ illegalOpcodes) (s : State) :
    exec (baseInstr op 0 0) s = .fault (.unimplementedOpcode (op.setWidth 16) s.cpu.pc) := by
  simp only [illegalOpcodes, List.mem_cons, List.not_mem_nil, or_false] at hop
  rcases hop with rfl | rfl | rfl | rfl | rfl | rfl | rfl | rfl | rfl | rfl | rfl <;> rfl

/-- A step that reads an illegal opcode at PC faults, at an unclaimed PC too: the fetch leaves PC at that byte. -/
theorem step_of_illegal {s : State} (hop : byteRead s.draws s s.cpu.pc ∈ illegalOpcodes) :
    step s = .fault (.unimplementedOpcode ((byteRead s.draws s s.cpu.pc).setWidth 16) s.cpu.pc) := by
  obtain ⟨i, hdecode, hstep⟩ := step_eq s
  rw [fetchInstr_of_instrLength_one (instrLength_of_illegal _ hop)] at hdecode hstep
  obtain rfl : baseInstr _ 0 0 = i := congrArg Prod.fst (Except.ok.inj ((decode_illegal hop []).symm.trans hdecode))
  rw [hstep, exec_baseInstr_illegal hop, read8_cpu]

/-! ### The statement -/

/-- Settles O7: the listed pairs evaluate to the illegal opcodes, each with what it decodes to, so each clause is a rule of the eleven. -/
theorem illegalOpcodesFault : Obligations.IllegalOpcodesFault := by
  intro s i op hmem
  obtain ⟨op, hop, ⟨⟩⟩ : ∃ o ∈ illegalOpcodes, (baseInstr o 0 0, o) = (i, op) := List.mem_map.1 hmem
  refine ⟨decode_illegal hop [], exec_baseInstr_illegal hop s, fun hbyte => ?step⟩
  obtain rfl : byteRead s.draws s s.cpu.pc = op := by rw [byteRead, hbyte, Option.getD_some]
  exact step_of_illegal hop

end Sys2Proof.Machine
end

section
/-! PROOFS. Encoding and decoding (spec 30_encoding.md): the decoder undoes the encoder on every well-formed instruction; and every row
of the two opcode maps encodes to its own bytes, so what the decoder answers is well formed and its encoding is the bytes read. -/

namespace Sys2Proof

/-! ### Decoding an encoding -/

/-- A three-byte instruction's operand bytes are put together to the word they came from, low byte first (R71). -/
theorem decode_wordOperand {op : Byte} (w : Word) (rest : List Byte) (h : instrLength op = 3) :
    decode (op :: lowByte w :: highByte w :: rest) = .ok (baseInstr op 0 w, rest) := by
  rw [Machine.decode_three _ _ _ h, wordOf_highByte_lowByte]

/-- Every row's bytes select that row (R61, R73, R76): the rows with a word operand by its two bytes, the others by evaluation. -/
theorem decode_encode_append (i : Instr) (rest : List Byte) (h : i.wf = true) : decode (encode i ++ rest) = .ok (i, rest) := by
  cases i with
  | prefix_CB ext => cases h
  | ld_BC_d16 w | ld_DE_d16 w | ld_HL_d16 w | ld_SP_d16 w | ld_atA16_SP w | ld_atA16_A w | ld_A_atA16 w
  | jp_a16 w | jp_NZ_a16 w | jp_Z_a16 w | jp_NC_a16 w | jp_C_a16 w
  | call_a16 w | call_NZ_a16 w | call_Z_a16 w | call_NC_a16 w | call_C_a16 w =>
    exact decode_wordOperand w rest rfl
  | _ => rfl

/-- Settles O2: `decode_encode_append`, whose case split is over the rows. -/
theorem decodeEncodeRoundTrip : Obligations.DecodeEncodeRoundTrip := decode_encode_append

/-! ### The rows of the opcode maps -/

theorem baseInstr_of_one : ∀ op : Byte, instrLength op = 1 →
    (baseInstr op 0 0).wf = true ∧ encode (baseInstr op 0 0) = [op] := by decide +kernel

theorem extendedInstr_row : ∀ ext : Byte, (extendedInstr ext).wf = true ∧ encode (extendedInstr ext) = [0xCB, ext] := by
  decide +kernel

/-- The rows of two bytes, 0xCB with the extended row that its second byte selects (R73, R76). -/
theorem row_of_two {op : Byte} (h : op ∈ twoByteOpcodes) (b1 : Byte) :
    (if op = 0xCB then extendedInstr b1 else baseInstr op b1 0).wf = true ∧
      encode (if op = 0xCB then extendedInstr b1 else baseInstr op b1 0) = [op, b1] := by
  unfold twoByteOpcodes at h
  fin_cases h
  any_goals exact ⟨rfl, rfl⟩
  exact extendedInstr_row b1

theorem baseInstr_of_three {op : Byte} (h : op ∈ threeByteOpcodes) (w : Word) :
    (baseInstr op 0 w).wf = true ∧ encode (baseInstr op 0 w) = [op, lowByte w, highByte w] := by
  unfold threeByteOpcodes at h
  fin_cases h <;> exact ⟨rfl, rfl⟩

theorem mem_of_instrLength_two {op : Byte} (h : instrLength op = 2) : op ∈ twoByteOpcodes := by
  unfold instrLength at h
  split_ifs at h <;> simp_all

theorem mem_of_instrLength_three {op : Byte} (h : instrLength op = 3) : op ∈ threeByteOpcodes := by
  unfold instrLength at h
  split_ifs at h <;> simp_all

/-! ### Decoding any list of bytes -/

/-- What the decoder answers for a list with enough bytes. -/
theorem decode_of_instrLength_le {op : Byte} {more : List Byte} (h : instrLength op ≤ more.length + 1) :
    ∃ i, decode (op :: more) = .ok (i, (op :: more).drop (instrLength op)) ∧ i.wf = true ∧
      encode i = (op :: more).take (instrLength op) := by
  rcases Machine.instrLength_cases op with hl | hl | hl <;> rw [hl] at h ⊢
  · obtain ⟨hwf, henc⟩ := baseInstr_of_one op hl
    exact ⟨_, Machine.decode_one more hl, hwf, henc⟩
  · match more, h with
    | b1 :: rest, _ => exact ⟨_, Machine.decode_two b1 rest hl, row_of_two (mem_of_instrLength_two hl) b1⟩
  · match more, h with
    | lo :: hi :: rest, _ =>
      refine ⟨_, Machine.decode_three lo hi rest hl, ?_⟩
      simpa using baseInstr_of_three (mem_of_instrLength_three hl) (wordOf hi lo)

/-- A list that ends before the instruction does is refused by name. -/
theorem decode_of_lt_instrLength {op : Byte} {more : List Byte} (h : more.length + 1 < instrLength op) :
    decode (op :: more) = .error (.truncated op) := by
  rcases Machine.instrLength_cases op with hl | hl | hl <;> rw [hl] at h
  · omega
  · match more, h with
    | [], _ => simp only [decode, hl]
  · match more, h with
    | [], _ => simp only [decode, hl]
    | [_], _ => simp only [decode, hl]

/-- What the decoder answers is well formed, and its encoding is the bytes read. -/
theorem encode_of_decode {bytes rest : List Byte} {i : Instr} (h : decode bytes = .ok (i, rest)) :
    i.wf = true ∧ encode i ++ rest = bytes := by
  match bytes, h with
  | op :: more, h =>
    rcases Nat.lt_or_ge (more.length + 1) (instrLength op) with hshort | hlong
    · rw [decode_of_lt_instrLength hshort] at h
      cases h
    · obtain ⟨j, hj, hwf, henc⟩ := decode_of_instrLength_le hlong
      rw [hj] at h
      obtain ⟨rfl, rfl⟩ := Prod.mk.inj (Except.ok.inj h)
      exact ⟨hwf, by rw [henc, List.take_append_drop]⟩

/-- Settles O3: `encode_of_decode`, and the decoder's answer for a list that is long enough and for one that is not. -/
theorem encodeDecodeRoundTrip : Obligations.EncodeDecodeRoundTrip := by
  refine ⟨fun _ _ _ => encode_of_decode, fun op more => ?exactly, rfl⟩
  case exactly =>
    split
    case isTrue hlong =>
      obtain ⟨i, hi, -, henc⟩ := decode_of_instrLength_le hlong
      exact ⟨i, hi, by rw [henc, List.length_take, List.length_cons, Nat.min_eq_left hlong]⟩
    case isFalse hshort => exact decode_of_lt_instrLength (Nat.lt_of_not_le hshort)

/-- Settles O1: each word by evaluation of the decoder. -/
theorem decodesSpecWords : Obligations.DecodesSpecWords :=
  ⟨rfl, rfl, rfl, rfl, rfl, rfl, rfl, rfl, rfl, rfl, rfl, rfl, rfl, rfl, rfl, rfl, rfl⟩

end Sys2Proof
end

section
/-! PROOFS. What every instruction and every step keeps: a property of states that each primitive update keeps is kept by every shared
operation, so by every instruction, and up to the GPU's advance by every step. The frame `keepsFixed`, the
arrays' good form and F's zero low nibble are three such properties. -/

namespace Sys2Proof.Machine

/-! ### Properties that every primitive update keeps -/

/-- A property of states that every primitive update of a state keeps. -/
structure Stable (Q : State → Prop) : Prop where
  setReg : ∀ {s} (r v), Q s → Q (setReg r v s)
  setFlags : ∀ {s} (u), Q s → Q (setFlags u s)
  setSP : ∀ {s} (v), Q s → Q (setSP v s)
  setIME : ∀ {s} (v), Q s → Q (setIME v s)
  setStackPair : ∀ {s} (p v), Q s → Q (setStackPair p v s)
  write8 : ∀ {s} (addr v), Q s → Q (write8 addr v s)
  draw : ∀ {s : State} (n), Q s → Q { s with draws := n }
  endAt : ∀ {s} (target m), Q s → Q (endAt target m s)

/-- A result that goes on does so to a state with the property. -/
def LeadsTo (Q : State → Prop) (r : Result) : Prop := ∀ t, r = .next t → Q t

namespace Stable

variable {Q : State → Prop} {s : State}

theorem setPair (h : Stable Q) (p : Pair) (v : Word) (hs : Q s) : Q (setPair p v s) :=
  match p with
  | .bc => h.setStackPair .bc v hs
  | .de => h.setStackPair .de v hs
  | .hl => h.setStackPair .hl v hs
  | .sp => h.setSP v hs

theorem read8 (h : Stable Q) (addr : Word) (hs : Q s) : Q (read8 addr s).2 := by
  rw [read8_eq]
  exact h.draw _ hs

theorem read16 (h : Stable Q) (addr : Word) (hs : Q s) : Q (read16 addr s).2 := h.read8 _ (h.read8 _ hs)

theorem write16 (h : Stable Q) (addr v : Word) (hs : Q s) : Q (write16 addr v s) := h.write8 _ _ (h.write8 _ _ hs)

theorem push16 (h : Stable Q) (v : Word) (hs : Q s) : Q (push16 v s) := h.write16 _ _ (h.setSP _ hs)

theorem pop16 (h : Stable Q) (hs : Q s) : Q (pop16 s).2 := h.setSP _ (h.read16 _ hs)

theorem readOperand (h : Stable Q) (o : Operand8) (hs : Q s) : Q (readOperand o s).2 :=
  match o with
  | .reg _ => hs
  | .atHL => h.read8 _ hs

theorem writeOperand (h : Stable Q) (o : Operand8) (v : Byte) (hs : Q s) : Q (writeOperand o v s) :=
  match o with
  | .reg r => h.setReg r v hs
  | .atHL => h.write8 _ v hs

theorem putAcc (h : Stable Q) (r : ByteResult) (hs : Q s) : Q (putAcc r s) := h.setFlags _ (h.setReg _ _ hs)

theorem jumpTo (h : Stable Q) (target : Word) (m : Nat) (hs : Q s) : LeadsTo Q (jumpTo target m s) := by
  rintro t ⟨⟩
  exact h.endAt target m hs

theorem finish (h : Stable Q) (len m : Nat) (hs : Q s) : LeadsTo Q (finish len m s) := h.jumpTo _ m hs

/-- Every shared operation of the meanings is made of the primitive updates. -/
theorem sharedForms (h : Stable Q) (hs : Q s) : SharedForms (LeadsTo Q) s where
  jump target m _ _ := h.jumpTo target m hs
  ime v := h.finish 1 1 (h.setIME v hs)
  loadReg r _ := h.finish 1 1 (h.setReg r _ hs)
  loadImm r d8 := h.finish 2 2 (h.setReg r d8 hs)
  loadFrom r addr len m _ _ := h.finish len m (h.setReg r _ (h.read8 addr hs))
  storeTo addr v len m _ _ := h.finish len m (h.write8 addr v hs)
  storeThenStep _ := h.finish 1 2 (h.setPair .hl _ (h.write8 _ _ hs))
  loadThenStep _ := h.finish 1 2 (h.setPair .hl _ (h.setReg .a _ (h.read8 _ hs)))
  loadPairImm p d16 := h.finish 3 3 (h.setPair p d16 hs)
  storeWord addr v := h.finish 3 5 (h.write16 addr v hs)
  loadSP v := h.finish 1 2 (h.setSP v hs)
  loadHLFromSP _ := h.finish 2 3 (h.setFlags _ (h.setPair .hl _ hs))
  pushPair _ := h.finish 1 4 (h.push16 _ hs)
  popPair p := h.finish 1 3 (h.setStackPair p _ (h.pop16 hs))
  accOperand _ o := h.finish 1 _ (h.putAcc _ (h.readOperand o hs))
  accImm _ _ := h.finish 2 2 (h.putAcc _ hs)
  incOperand o := h.finish 1 _ (h.setFlags _ (h.writeOperand o _ (h.readOperand o hs)))
  decOperand o := h.finish 1 _ (h.setFlags _ (h.writeOperand o _ (h.readOperand o hs)))
  adjust r := h.finish 1 1 (h.putAcc r hs)
  flags u := h.finish 1 1 (h.setFlags u hs)
  addToHL _ := h.finish 1 2 (h.setFlags _ (h.setPair .hl _ hs))
  incPair p := h.finish 1 2 (h.setPair p _ hs)
  decPair p := h.finish 1 2 (h.setPair p _ hs)
  addSP _ := h.finish 2 4 (h.setFlags _ (h.setSP _ hs))
  rotAcc _ := h.finish 1 1 (h.putAcc _ hs)
  rotOperand _ o := h.finish 2 _ (h.setFlags _ (h.writeOperand o _ (h.readOperand o hs)))
  testOperand _ o := h.finish 2 _ (h.setFlags _ (h.readOperand o hs))
  resetOperand _ o := h.finish 2 _ (h.writeOperand o _ (h.readOperand o hs))
  setOperand _ o := h.finish 2 _ (h.writeOperand o _ (h.readOperand o hs))
  call target _ m _ _ := h.jumpTo target m (h.push16 _ hs)
  ret m _ _ := h.jumpTo _ m (h.pop16 hs)
  reti := h.jumpTo _ 4 (h.setIME true (h.pop16 hs))
  illegal _ _ := nofun

/-- An instruction keeps what every primitive update keeps. -/
theorem exec (h : Stable Q) (i : Instr) (hs : Q s) : LeadsTo Q (exec i s) := exec_of_shared (h.sharedForms hs) i

/-- A step keeps it up to the GPU's advance. -/
theorem step (h : Stable Q) {t : State} (hs : Q s) (hstep : step s = .next t) : ∃ u, Q u ∧ t = gpuAdvance u := by
  obtain ⟨i, k, u, hexec, ht⟩ := step_next hstep
  exact ⟨u, h.exec i (h.draw _ hs) u hexec, ht⟩

end Stable

/-! ### The properties -/

/-- What no instruction changes (20_memory.md R33, R35; 60_exceptions.md R252, R262). -/
theorem stable_keepsFixed (s₀ : State) : Stable (keepsFixed s₀) where
  setReg r v h := by simpa [keepsFixed] using h
  setFlags _ h := h
  setSP _ h := h
  setIME _ h := h
  setStackPair p v h := by simpa [keepsFixed] using h
  write8 addr v h := keepsFixed_trans h (keepsFixed_write8 addr v _)
  draw _ h := h
  endAt _ _ h := h

/-- The arrays change by byte writes alone (20_memory.md R41). -/
theorem stable_arraysOk : Stable (arraysOk · = true) where
  setReg r v h := (arraysOk_congr (by simp) (by simp)).trans h
  setFlags _ h := h
  setSP _ h := h
  setIME _ h := h
  setStackPair p v h := (arraysOk_congr (by simp) (by simp)).trans h
  write8 addr v h := arraysOk_write8 addr v h
  draw _ h := h
  endAt _ _ h := h

/-- F changes by flag updates and by POP AF, which masks the byte it pops (10_state.md R11, R12). -/
theorem stable_lowNibble : Stable (fun s => s.cpu.f &&& 0x0F = 0) where
  setReg r v h := by simpa using h
  setFlags u h := writeFlags_lowNibble u _ h
  setSP _ h := h
  setIME _ h := h
  setStackPair {s} p v h := by
    rw [setStackPair_f]
    split
    · rw [BitVec.and_assoc]; exact BitVec.and_zero
    · exact h
  write8 addr v h := by simpa using h
  draw _ h := h
  endAt _ _ h := h

end Sys2Proof.Machine
end

section
/-! PROOFS. The background rasterizer (spec 60_exceptions.md R260 to R264): each byte of a scanline that has been drawn, the colour number
by the spec's arithmetic, and what of the GPU a drawn line depends on. -/

namespace Sys2Proof.Machine

/-! ### Drawn pixels -/

/-- A pixel's own four bytes: three equal channels and an opaque alpha (R260, R262). -/
theorem memGet_writePixel {fb : Memory} {o k : Nat} (i : Byte) (hfb : Memory.wf fb = true) (hk : k < 4) :
    memGet (writePixel fb o i) (o + k) = if k < 3 then i else 0xFF := by
  have h0 := memSet_wf fb o i hfb
  have h1 := memSet_wf _ (o + 1) i h0
  have h2 := memSet_wf _ (o + 2) i h1
  unfold writePixel
  match k, hk with
  | 0, _ =>
    rw [memGet_memSet_ne _ _ (by omega), memGet_memSet_ne _ _ (by omega), memGet_memSet_ne _ _ (by omega)]
    exact memGet_memSet_self _ _ _ hfb
  | 1, _ =>
    rw [memGet_memSet_ne _ _ (by omega), memGet_memSet_ne _ _ (by omega)]
    exact memGet_memSet_self _ _ _ h0
  | 2, _ =>
    rw [memGet_memSet_ne _ _ (by omega)]
    exact memGet_memSet_self _ _ _ h1
  | 3, _ => exact memGet_memSet_self _ _ _ h2

theorem renderPixels_wf {g : Gpu} (n : Nat) (h : Memory.wf g.fb = true) : Memory.wf (renderPixels g n) = true := by
  induction n with
  | zero => exact h
  | succ n ih => exact memSet_wf _ _ _ (memSet_wf _ _ _ (memSet_wf _ _ _ (memSet_wf _ _ _ ih)))

/-- A drawn pixel keeps its bytes while the pixels after it are drawn (R260). -/
theorem memGet_renderPixels {g : Gpu} {n px k : Nat} (h : Memory.wf g.fb = true) (hpx : px < n) (hk : k < 4) :
    memGet (renderPixels g n) ((g.ly.toNat * 160 + px) * 4 + k) = if k < 3 then pixelIntensity g px else 0xFF := by
  induction n with
  | zero => omega
  | succ n ih =>
    rw [renderPixels]
    rcases Nat.lt_or_eq_of_le (Nat.le_of_lt_succ hpx) with hlt | rfl
    · rw [writePixel_ne _ _ (by omega), ih hlt]
    · exact memGet_writePixel _ (renderPixels_wf px h) hk

/-! ### The colour number -/

/-- The signed tile index counts from tile 256 (R261). -/
theorem tileNumber_eq (lcdc idx : Byte) :
    tileNumber lcdc idx = if lcdc.getLsbD 4 then idx.toNat else if idx.toNat < 128 then 256 + idx.toNat else idx.toNat := by
  have hidx := idx.isLt
  have hsigned := BitVec.toInt_eq_toNat_cond idx
  unfold tileNumber
  split_ifs with _ h
  · rfl
  · rw [hsigned, if_pos (by omega)]; omega
  · rw [hsigned, if_neg (by omega)]; omega

theorem tileNumber_lt (lcdc idx : Byte) : tileNumber lcdc idx < 384 := by
  have hidx := idx.isLt
  rw [tileNumber_eq]
  split_ifs <;> omega

/-- A bit of a byte as a number. -/
theorem ite_getLsbD_eq (v : Byte) (i : Nat) : (if v.getLsbD i then 1 else 0) = v.toNat / 2 ^ i % 2 := by
  rw [BitVec.getLsbD, Nat.testBit_eq_decide_div_mod_eq]
  have := Nat.mod_lt (v.toNat / 2 ^ i) (show 2 > 0 by decide)
  simp only [decide_eq_true_eq]
  split <;> omega

/-- The map entry of pixel `px`'s tile (R260). -/
def tileIndexAt (g : Gpu) (px : Nat) : Byte :=
  memGet g.vram (tileMapBase g.lcdc + (g.scy.toNat + g.ly.toNat) % 256 / 8 * 32 + (g.scx.toNat + px) % 256 / 8)

/-- The offset of the two bytes that hold pixel `px`'s row of its tile (R260, R261). -/
def tileRowAt (g : Gpu) (px : Nat) : Nat :=
  tileNumber g.lcdc (tileIndexAt g px) * 16 + (g.scy.toNat + g.ly.toNat) % 256 % 8 * 2

/-- The colour number is one bit of each of the row's two bytes, the second byte's twice (R260). -/
theorem colourNumber_eq (g : Gpu) (px : Nat) : colourNumber g px =
    (memGet g.vram (tileRowAt g px + 1)).toNat / 2 ^ (7 - (g.scx.toNat + px) % 8) % 2 * 2 +
      (memGet g.vram (tileRowAt g px)).toNat / 2 ^ (7 - (g.scx.toNat + px) % 8) % 2 := by
  have hcolumn : (g.scx.toNat + px) % 256 % 8 = (g.scx.toNat + px) % 8 := Nat.mod_mod_of_dvd _ (by decide)
  have htwice (b : Bool) : (if b then 2 else 0) = (if b then 1 else 0) * 2 := by cases b <;> rfl
  simp only [← ite_getLsbD_eq, ← htwice, ← hcolumn]
  rfl

/-! ### The statements -/

/-- Settles O12: only the drawn line's bytes differ, and each pixel's four bytes are those last written for it. -/
theorem renderScanDrawsBackgroundLine : Obligations.RenderScanDrawsBackgroundLine := by
  refine fun g hfb => ⟨fun hoff => ?off, fun hon => ?on⟩
  case off => rw [renderScan, hoff]; rfl
  case on =>
    have hdrawn : (renderScan g).fb = renderPixels g 160 := by simp [renderScan, hon]
    rw [hdrawn]
    refine ⟨hdrawn ▸ renderScan_eq g, fun k hk => renderPixels_ne 160 k (by omega), fun px hpx => ?pixel⟩
    case pixel =>
      refine ⟨(tileIndexAt g px).toNat, tileNumber g.lcdc (tileIndexAt g px), (memGet g.vram (tileRowAt g px)).toNat,
        (memGet g.vram (tileRowAt g px + 1)).toNat, colourNumber g px, shadeOf g.bgp (colourNumber g px), rfl,
        tileNumber_eq _ _, tileNumber_lt _ _, rfl, rfl, colourNumber_eq g px, rfl, fun k hk => ?grey, ?alpha⟩
      case grey => rw [memGet_renderPixels hfb hpx (by omega), if_pos hk]; rfl
      case alpha => rw [memGet_renderPixels hfb hpx (by omega), if_neg (by omega)]

/-! ### What a drawn line depends on -/

/-- What the two states of the noninterference statement share: everything but what the window, the sprites and the CPU alone
use (R263, R264; log 16). -/
structure SameBackground (g g' : Gpu) : Prop where
  enabled : g'.lcdc.getLsbD 0 = g.lcdc.getLsbD 0
  map : g'.lcdc.getLsbD 3 = g.lcdc.getLsbD 3
  tiles : g'.lcdc.getLsbD 4 = g.lcdc.getLsbD 4
  scy : g'.scy = g.scy
  scx : g'.scx = g.scx
  ly : g'.ly = g.ly
  bgp : g'.bgp = g.bgp
  vram : g'.vram = g.vram
  fb : g'.fb = g.fb

theorem SameBackground.renderPixels_eq {g g' : Gpu} (h : SameBackground g g') (n : Nat) :
    renderPixels g' n = renderPixels g n := by
  have htile (idx : Byte) : tileNumber g'.lcdc idx = tileNumber g.lcdc idx := by rw [tileNumber, tileNumber, h.tiles]
  have hmap : tileMapBase g'.lcdc = tileMapBase g.lcdc := by rw [tileMapBase, tileMapBase, h.map]
  have hpixel (px : Nat) : pixelIntensity g' px = pixelIntensity g px := by
    simp only [pixelIntensity, colourNumber_eq, tileRowAt, tileIndexAt, htile, hmap, h.scy, h.scx, h.ly, h.bgp, h.vram]
  induction n with
  | zero => exact h.fb
  | succ n ih => rw [renderPixels, renderPixels, ih, hpixel, h.ly]

theorem SameBackground.renderScan_fb {g g' : Gpu} (h : SameBackground g g') : (renderScan g').fb = (renderScan g).fb := by
  unfold renderScan
  rw [h.enabled, h.renderPixels_eq]
  split
  case isTrue => rfl
  case isFalse => exact h.fb

/-- The framebuffer after an advance: drawn if mode 3 ends (R255). -/
theorem gpuExecute_fb (ticks : Nat) (g : Gpu) : (gpuExecute ticks g).fb =
    if g.mode = .vramScan ∧ vramScanTicks ≤ g.clock + ticks then (renderScan g).fb else g.fb := by
  have hrender : (renderScan { g with clock := 0, mode := .hblank }).fb = (renderScan g).fb :=
    SameBackground.renderScan_fb ⟨rfl, rfl, rfl, rfl, rfl, rfl, rfl, rfl, rfl⟩
  rcases gpuExecute_cases ticks g with
    ⟨hlt, hrun⟩ | ⟨hge, ⟨hm, hend⟩ | ⟨hm, hend⟩ | ⟨hm, hend⟩ | ⟨hm, -, hend⟩ | ⟨hm, -, hend⟩⟩
  case inl =>
    rw [hrun, if_neg]
    rintro ⟨hm, hge⟩
    rw [hm] at hlt
    exact Nat.not_lt.2 hge hlt
  case inr.inr.inl =>
    rw [hm] at hge
    rw [hend, hrender, if_pos ⟨hm, hge⟩]
  all_goals rw [if_neg (by simp [hm]), hend]

/-- The mask of LCDC bits 4, 3 and 0 keeps those bits (R254). -/
theorem getLsbD_eq_of_lcdcMask {lcdc lcdc' : Byte} (h : lcdc' &&& 0x19 = lcdc &&& 0x19) {i : Nat}
    (hi : (0x19 : Byte).getLsbD i = true) : lcdc'.getLsbD i = lcdc.getLsbD i := by
  have hbit := congrArg (BitVec.getLsbD · i) h
  simpa only [BitVec.getLsbD_and, hi, Bool.and_true] using hbit

/-- Settles O13: the two states share what a drawn line depends on, and the mode and clock that decide whether one is drawn. -/
theorem windowAndSpritesDoNotShow : Obligations.WindowAndSpritesDoNotShow := by
  intro g lcdc lyc obp0 obp1 wy wx statHigh oam ticks hmask
  have hsame : SameBackground g { g with lcdc, statHigh, lyc, obp0, obp1, wy, wx, oam } :=
    ⟨getLsbD_eq_of_lcdcMask hmask rfl, getLsbD_eq_of_lcdcMask hmask rfl, getLsbD_eq_of_lcdcMask hmask rfl,
      rfl, rfl, rfl, rfl, rfl, rfl⟩
  rw [gpuExecute_fb, gpuExecute_fb, hsame.renderScan_fb]

end Sys2Proof.Machine
end

section
/-! PROOFS. The GPU's mode machine and line sequence (spec 60_exceptions.md R253 to R256): the table of one advance, that an advance keeps
the sequence, and the step invariants, each what the CPU step leaves of the GPU and the arrays, then one advance. -/

namespace Sys2Proof.Machine

/-! ### LY as a number -/

theorem ly_add_one_eq_143_iff (ly : Byte) : ly + 1 = 143 ↔ ly = 142 := by bv_omega

theorem ly_eq_142_iff (ly : Byte) : ly = 142 ↔ ly.toNat = 142 := by bv_omega

theorem ly_add_one_toNat {ly : Byte} (h : ly.toNat < 255) : (ly + 1).toNat = ly.toNat + 1 := by bv_omega

/-- The end of the frame on the wrapping byte: LY 255 becomes 0, which is not above 153 (log 14). -/
theorem lt_ly_add_one_iff (ly : Byte) : 153 < (ly + 1).toNat ↔ 153 ≤ ly.toNat ∧ ly.toNat < 255 := by bv_omega

/-! ### The table -/

/-- Settles O9: each mode's row by evaluation, with LY's tests as the table writes them. -/
theorem gpuExecuteTable : Obligations.GpuExecuteTable := by
  refine ⟨fun g ticks hlt => ?runs, fun g ticks hge => ?ends, ⟨rfl, rfl, rfl, rfl⟩, fun g hm hc => ?oamScan,
    fun g hm hly hc => ?hblank⟩
  case runs =>
    rcases gpuExecute_cases ticks g with ⟨-, hrun⟩ | ⟨hge, -⟩
    · exact hrun
    · omega
  case ends =>
    rcases gpuExecute_cases ticks g with
      ⟨hlt, -⟩ | ⟨-, ⟨hm, hend⟩ | ⟨hm, hend⟩ | ⟨hm, hend⟩ | ⟨hm, hly, hend⟩ | ⟨hm, hly, hend⟩⟩
    · omega
    · rw [hend, hm]
    · rw [hend, hm]
    · rw [hend, hm]
      simp only [ly_add_one_eq_143_iff]
    · rw [hend, hm]
      exact (if_pos ((lt_ly_add_one_iff g.ly).1 hly)).symm
    · rw [hend, hm]
      exact (if_neg (mt (lt_ly_add_one_iff g.ly).2 (Nat.not_lt.2 hly))).symm
  case oamScan => simp [gpuExecute, hm, hc, oamScanTicks]
  case hblank => simp [gpuExecute, hm, hly, hc, hblankTicks]

/-! ### The line sequence -/

theorem gpuOk_iff (g : Gpu) : gpuOk g = true ↔
    g.clock < modeTicks g.mode ∧ if g.mode = .vblank then 143 ≤ g.ly.toNat ∧ g.ly.toNat ≤ 153 else g.ly.toNat ≤ 142 := by
  simp only [gpuOk, Bool.and_eq_true, decide_eq_true_eq]
  split <;> simp

/-- The invariant speaks of the mode, the clock and LY alone. -/
theorem gpuOk_of_keepsFixed {s t : State} (h : keepsFixed s t) : gpuOk t.gpu = gpuOk s.gpu := by
  obtain ⟨-, -, -, hmode, hclock, hly, -⟩ := h
  simp only [gpuOk, hmode, hclock, hly]

/-- One advance, from a point of the line sequence: the clock runs, or the mode ends and the next one starts (R255, R256). -/
theorem gpuExecute_of_gpuOk (ticks : Nat) {g g' : Gpu} (hok : gpuOk g = true) (hg' : g' = gpuExecute ticks g) :
    (g'.clock = g.clock + ticks ∧ g'.clock < modeTicks g.mode ∧ g'.mode = g.mode ∧ g'.ly = g.ly ∧ g'.fb = g.fb) ∨
    (g'.clock = 0 ∧ g.mode = .oamScan ∧ g'.mode = .vramScan ∧ g'.ly = g.ly ∧ g'.fb = g.fb) ∨
    (g'.clock = 0 ∧ g.mode = .vramScan ∧ g'.mode = .hblank ∧ g'.ly = g.ly) ∨
    (g'.clock = 0 ∧ g.mode = .hblank ∧ g'.mode = (if g.ly.toNat = 142 then .vblank else .oamScan) ∧
      g'.ly.toNat = g.ly.toNat + 1 ∧ g'.fb = g.fb) ∨
    (g'.clock = 0 ∧ g.mode = .vblank ∧ g'.mode = (if g.ly.toNat = 153 then .oamScan else .vblank) ∧
      g'.ly.toNat = (g.ly.toNat + 1) % 154 ∧ g'.fb = g.fb) := by
  obtain ⟨-, hly⟩ := (gpuOk_iff g).1 hok
  rcases gpuExecute_cases ticks g with
    ⟨hlt, hrun⟩ | ⟨-, ⟨hm, hend⟩ | ⟨hm, hend⟩ | ⟨hm, hend⟩ | ⟨hm, hlast, hend⟩ | ⟨hm, hlast, hend⟩⟩
  · rw [hrun] at hg'; subst hg'
    exact .inl ⟨rfl, hlt, rfl, rfl, rfl⟩
  · rw [hend] at hg'; subst hg'
    exact .inr (.inl ⟨rfl, hm, rfl, rfl, rfl⟩)
  · rw [hend, renderScan_eq] at hg'; subst hg'
    exact .inr (.inr (.inl ⟨rfl, hm, rfl, rfl⟩))
  · rw [hend] at hg'; subst hg'
    simp only [hm, reduceCtorEq, if_false] at hly
    exact .inr (.inr (.inr (.inl ⟨rfl, hm, by simp only [ly_add_one_eq_143_iff, ly_eq_142_iff],
      ly_add_one_toNat (by omega), rfl⟩)))
  · rw [hend] at hg'; subst hg'
    simp only [hm, if_true] at hly
    have h153 : g.ly.toNat = 153 := by have := (lt_ly_add_one_iff g.ly).1 hlast; omega
    exact .inr (.inr (.inr (.inr ⟨rfl, hm, (if_pos h153).symm, by rw [h153]; rfl, rfl⟩)))
  · rw [hend] at hg'; subst hg'
    simp only [hm, if_true] at hly
    have hnext := ly_add_one_toNat (ly := g.ly) (by omega)
    exact .inr (.inr (.inr (.inr ⟨rfl, hm, (hm.trans (if_neg (by omega)).symm), hnext.trans (by omega), rfl⟩)))

/-- An advance keeps the line sequence (R256). -/
theorem gpuOk_gpuExecute (ticks : Nat) {g : Gpu} (hok : gpuOk g = true) : gpuOk (gpuExecute ticks g) = true := by
  obtain ⟨-, hly⟩ := (gpuOk_iff g).1 hok
  rw [gpuOk_iff]
  rcases gpuExecute_of_gpuOk ticks hok rfl with
    ⟨-, hlt, hmode, hly', -⟩ | ⟨hc, hm, hmode, hly', -⟩ | ⟨hc, hm, hmode, hly'⟩ |
      ⟨hc, hm, hmode, hly', -⟩ | ⟨hc, hm, hmode, hly', -⟩
  · rw [hmode, hly']
    exact ⟨hlt, hly⟩
  · rw [hc, hmode, hly']
    simp only [hm, reduceCtorEq, if_false] at hly ⊢
    exact ⟨by decide, hly⟩
  · rw [hc, hmode, hly']
    simp only [hm, reduceCtorEq, if_false] at hly ⊢
    exact ⟨by decide, hly⟩
  · rw [hc, hmode, hly']
    simp only [hm, reduceCtorEq, if_false] at hly
    by_cases h142 : g.ly.toNat = 142
    · rw [if_pos h142, h142]; decide
    · rw [if_neg h142]; exact ⟨by decide, show _ ≤ 142 by omega⟩
  · rw [hc, hmode, hly']
    simp only [hm, if_true] at hly
    by_cases h153 : g.ly.toNat = 153
    · rw [if_pos h153, h153]; decide
    · rw [if_neg h153]; exact ⟨by decide, show 143 ≤ _ ∧ _ ≤ 153 by omega⟩

theorem keepsFixed_refl (s : State) : keepsFixed s s := ⟨rfl, rfl, rfl, rfl, rfl, rfl, rfl⟩

/-- What a step leaves of the GPU: the CPU step keeps the mode, the clock, LY and the framebuffer, and one advance follows. -/
theorem step_keepsFixed {s t : State} (h : step s = .next t) : ∃ u, keepsFixed s u ∧ t = gpuAdvance u :=
  (stable_keepsFixed s).step (keepsFixed_refl s) h

/-- Settles O10: the CPU step leaves the line sequence alone, and the advance keeps it. -/
theorem stepKeepsGpuSequence : Obligations.StepKeepsGpuSequence := by
  intro s t hok hstep
  obtain ⟨u, hkeeps, rfl⟩ := step_keepsFixed hstep
  exact gpuOk_gpuExecute _ ((gpuOk_of_keepsFixed hkeeps).trans hok)

/-- Settles O11: the advance's cases, read at the state before the CPU step, which keeps what they speak of. -/
theorem modesAndLinesInOrder : Obligations.ModesAndLinesInOrder := by
  intro s t hok hstep
  obtain ⟨u, hkeeps, rfl⟩ := step_keepsFixed hstep
  have hcases := gpuExecute_of_gpuOk (ticksPerCycle * u.cycles) ((gpuOk_of_keepsFixed hkeeps).trans hok) rfl
  obtain ⟨-, -, -, hmode, hclock, hly, hfb⟩ := hkeeps
  rw [hmode, hclock, hly, hfb] at hcases
  exact hcases.imp_left fun ⟨hc, _, hrest⟩ => ⟨hc, hrest⟩

/-- Settles O18: a ROM address names a byte that a write discards, and no part of a step changes the three. -/
theorem stepKeepsReadOnlyState : Obligations.StepKeepsReadOnlyState := by
  refine ⟨fun s addr v haddr => ?discarded, fun s t hstep => ?kept⟩
  case discarded =>
    rw [write8, placeOf_ite, if_pos haddr]
    split <;> rfl
  case kept =>
    obtain ⟨u, ⟨hbios, hboot, hrom, -⟩, rfl⟩ := step_keepsFixed hstep
    exact ⟨hrom, hboot, hbios⟩

/-- The framebuffer's part of `arraysOk` (60_exceptions.md R262). -/
def fbOk (g : Gpu) : Prop := (Memory.wf g.fb && Memory.inBounds Config.fbSize g.fb) = true

/-- Of the arrays an advance changes the framebuffer alone (60_exceptions.md R260). -/
theorem gpuExecute_vram_oam (ticks : Nat) (g : Gpu) :
    (gpuExecute ticks g).vram = g.vram ∧ (gpuExecute ticks g).oam = g.oam := by
  rcases gpuExecute_cases ticks g with
    ⟨-, hend⟩ | ⟨-, ⟨-, hend⟩ | ⟨-, hend⟩ | ⟨-, hend⟩ | ⟨-, -, hend⟩ | ⟨-, -, hend⟩⟩
  case inr.inr.inl => rw [hend, renderScan_eq]; exact ⟨rfl, rfl⟩
  all_goals rw [hend]; exact ⟨rfl, rfl⟩

theorem fbOk_renderScan {g : Gpu} (hly : g.ly.toNat ≤ 143) (h : fbOk g) : fbOk (renderScan g) := by
  have hpixels := renderPixels_ok 160 (Nat.le_refl 160) hly h
  unfold renderScan
  generalize renderPixels g 160 = fb at hpixels ⊢
  split
  case isTrue => exact hpixels
  case isFalse => exact h

/-- An advance draws at the end of mode 3 alone, and there LY is a visible line (60_exceptions.md R256, R262). -/
theorem fbOk_gpuExecute (ticks : Nat) {g : Gpu} (hok : gpuOk g = true) (h : fbOk g) : fbOk (gpuExecute ticks g) := by
  obtain ⟨-, hly⟩ := (gpuOk_iff g).1 hok
  rw [fbOk, gpuExecute_fb]
  split
  case isTrue hdraw =>
    obtain ⟨hm, -⟩ := hdraw
    simp only [hm, reduceCtorEq, if_false] at hly
    exact fbOk_renderScan (hly.trans (by decide)) h
  case isFalse => exact h

theorem arraysOk_gpuAdvance {s : State} (h : arraysOk s = true) (hok : gpuOk s.gpu = true) : arraysOk (gpuAdvance s) = true := by
  obtain ⟨hvram, hoam⟩ := gpuExecute_vram_oam (ticksPerCycle * s.cycles) s.gpu
  simp only [arraysOk, gpuAdvance, hvram, hoam] at h ⊢
  rw [Bool.and_eq_true] at h ⊢
  exact ⟨h.1, fbOk_gpuExecute _ hok h.2⟩

/-- Settles O24: the CPU step keeps the arrays and the line sequence, so the advance that follows keeps the arrays. -/
theorem stepKeepsArrays : Obligations.StepKeepsArrays := by
  intro s t harr hok hstep
  obtain ⟨i, k, u, hexec, rfl⟩ := step_next hstep
  have hkeeps : keepsFixed s u :=
    (stable_keepsFixed s).exec i ((stable_keepsFixed s).draw _ (keepsFixed_refl s)) u hexec
  have harr' : arraysOk u = true := stable_arraysOk.exec i (stable_arraysOk.draw _ harr) u hexec
  exact arraysOk_gpuAdvance harr' ((gpuOk_of_keepsFixed hkeeps).trans hok)

/-- Settles O25: every primitive update keeps F's low nibble zero, and the GPU's advance is not one of F. -/
theorem stepKeepsFlagNibble : Obligations.StepKeepsFlagNibble := by
  intro s t hf hstep
  obtain ⟨u, hu, rfl⟩ := stable_lowNibble.step hf hstep
  exact hu

end Sys2Proof.Machine
end

section
/-! PROOFS. The address map (spec 20_memory.md R40 to R44; 60_exceptions.md R250 to R252): the decode of an address, test by test, carried
to the byte it reads as and to the write it takes; and word accesses as two byte accesses. -/

namespace Sys2Proof.Machine

/-! ### Bytes -/

/-- The address decode carried through what is read off a place: one test after another, in the map's order (R40, R41, R250). -/
theorem placeOf_elim {α : Type} (f : Place → α) (s : State) (addr : Word) : f (placeOf s addr) =
    if s.mmu.inBios = true ∧ addr.toNat < 0x0100 then f (.boot addr.toNat)
    else if addr.toNat ≤ 0x7FFF then f (.rom addr.toNat)
    else if addr.toNat ≤ 0x9FFF then f (.vram (addr.toNat - 0x8000))
    else if addr.toNat ≤ 0xBFFF then f (.eram (addr.toNat - 0xA000))
    else if addr.toNat ≤ 0xDFFF then f (.wram (addr.toNat - 0xC000))
    else if addr.toNat ≤ 0xFDFF then f (.wram (addr.toNat - 0xE000))
    else if addr.toNat ≤ 0xFE9F then f (.oam (addr.toNat - 0xFE00))
    else if 0xFF80 ≤ addr.toNat then f (.zram (addr.toNat - 0xFF80))
    else if addr.toNat = 0xFF40 then f (.gpuReg .lcdc)
    else if addr.toNat = 0xFF41 then f (.gpuReg .stat)
    else if addr.toNat = 0xFF42 then f (.gpuReg .scy)
    else if addr.toNat = 0xFF43 then f (.gpuReg .scx)
    else if addr.toNat = 0xFF44 then f (.gpuReg .ly)
    else if addr.toNat = 0xFF45 then f (.gpuReg .lyc)
    else if addr.toNat = 0xFF47 then f (.gpuReg .bgp)
    else if addr.toNat = 0xFF48 then f (.gpuReg .obp0)
    else if addr.toNat = 0xFF49 then f (.gpuReg .obp1)
    else if addr.toNat = 0xFF4A then f (.gpuReg .wy)
    else if addr.toNat = 0xFF4B then f (.gpuReg .wx)
    else f .unmapped := by
  rw [placeOf_ite, gpuRegAt_ite]
  simp only [apply_ite f, apply_ite (Option.map Place.gpuReg), apply_ite (Option.getD · Place.unmapped)]
  rfl

/-- Settles O14: the value and the state by `read8_eq`, the map by reading the byte at each place the decode can give. -/
theorem readFollowsAddressMap : Obligations.ReadFollowsAddressMap :=
  fun s addr => ⟨by rw [read8_eq], by rw [read8_eq], placeOf_elim (byteAtPlace s) s addr⟩

/-- STAT stores bits 7..2 of the byte (R251, R252). -/
theorem extractHighSix_eq_ofNat (v : Byte) : v.extractLsb' 2 6 = BitVec.ofNat 6 (v.toNat / 4) := by
  rw [BitVec.extractLsb', Nat.shiftRight_eq_div_pow]

/-- Settles O15: the write at each place the decode can give. The map has no test for the boot overlay, which lies below 0x8000 where
a write is discarded too, nor for LY, whose write is discarded as one to an unclaimed address is. -/
theorem writeFollowsAddressMap : Obligations.WriteFollowsAddressMap := by
  intro s addr v
  dsimp only
  rw [write8, placeOf_elim (writePlace · v s), ← extractHighSix_eq_ofNat]
  by_cases hrom : addr.toNat ≤ 0x7FFF
  case pos =>
    rw [if_pos hrom, if_pos hrom]
    split <;> rfl
  case neg =>
    rw [if_neg (show ¬(s.mmu.inBios = true ∧ addr.toNat < 0x0100) by omega), if_neg hrom, if_neg hrom]
    by_cases hly : addr.toNat = 0xFF44
    case pos => simp [hly, writePlace, gpuRegWrite]
    case neg => rw [if_neg hly]; rfl

/-- Settles O16: `storesByte_write8`. -/
theorem readAfterWrite : Obligations.ReadAfterWrite := fun _ addr v hs => storesByte_write8 addr v hs

/-! ### Words -/

/-- Settles O19: each byte read on its own, the high byte after the low byte's free value. -/
theorem wordReadsAreLittleEndian : Obligations.WordReadsAreLittleEndian := by
  refine fun s addr => ⟨read16_value addr s, ?number, ?state⟩
  case number => rw [read16_value, wordRead, wordOf_toNat]; omega
  case state =>
    show (read8 (addr + 1) (read8 addr s).2).2 = _
    rw [read8_eq (addr + 1), drawn_read8, read8_eq addr, wordDrawn, ← Nat.add_assoc]

/-- Settles O20: a word's bytes are its quotient and remainder by 256, and the two stores are `storesWord_write16`. -/
theorem wordWritesAreLittleEndian : Obligations.WordWritesAreLittleEndian := by
  intro s addr v
  have hlow : lowByte v = BitVec.ofNat 8 v.toNat := BitVec.eq_of_toNat_eq (by rw [lowByte_toNat, BitVec.toNat_ofNat])
  have hhigh : highByte v = BitVec.ofNat 8 (v.toNat / 256) :=
    BitVec.eq_of_toNat_eq (by rw [highByte_toNat, BitVec.toNat_ofNat]; omega)
  exact ⟨by rw [write16, hlow, hhigh], storesWord_write16 addr v⟩

end Sys2Proof.Machine
end

section
/-! PROOFS. The host's operations and the state after reset (spec 70_reset_and_hazards.md R281 to R284; 20_memory.md R45). -/

namespace Sys2Proof.Machine

/-- A list cut at `n` reads as the list below `n`, and as the default from there on. -/
theorem getD_take (bytes : List Byte) (n k : Nat) (d : Byte) : (bytes.take n).getD k d = if k < n then bytes.getD k d else d := by
  rw [List.getD_eq_getElem?_getD, List.getElem?_take]
  split <;> simp

/-- Settles O21: the ROM is the array of the bytes cut at its size, which reads as the bytes and then as zero. -/
theorem hostLoadAndReset : Obligations.HostLoadAndReset := by
  have hrom (s : State) (bytes : List Byte) (k : Nat) :
      memGet (s.load bytes).mmu.rom k = if k < 0x8000 then bytes.getD k 0x00 else 0x00 := by
    have h := memGet_memOfBytes 0 (bytes.take Config.romSize) k
    rw [Nat.zero_add, getD_take] at h
    exact h
  exact ⟨fun s bytes => ⟨fun k hk => (hrom s bytes k).trans (if_pos hk),
      fun k hk => (hrom s bytes k).trans (if_neg (Nat.not_lt.2 hk)), rfl⟩,
    fun s => ⟨rfl, rfl, rfl, rfl⟩⟩

/-- The boot ROM holds its parameter (R281, R282). -/
theorem memGet_bootImage (k : BitVec 8) : memGet bootImage k.toNat = Config.bootRom k := by
  have h := memGet_memOfBytes 0 ((List.range Config.bootSize).map fun k => Config.bootRom (BitVec.ofNat 8 k)) k.toNat
  rw [Nat.zero_add] at h
  rw [bootImage, h]
  simp [List.getD_eq_getElem?_getD, k.isLt]

/-- Settles O22: the boot ROM by `memGet_bootImage`, every other field by evaluation. -/
theorem resetValues : Obligations.ResetValues := by
  refine ⟨fun r => ?regs, rfl, rfl, rfl, rfl, rfl, memGet_bootImage,
    fun k => ⟨rfl, rfl, rfl, rfl, rfl, rfl, rfl⟩, fun r => ?gpu, rfl, rfl⟩
  case regs => cases r <;> rfl
  case gpu => cases r <;> rfl

/-- Settles O23: every array is empty but the boot ROM's, which is laid out from a list of its size. -/
theorem resetMeetsInvariants : Obligations.ResetMeetsInvariants := by
  have hboot : (Memory.wf bootImage && Memory.inBounds Config.bootSize bootImage) = true := by
    rw [bootImage, memOfBytes_wf, memOfBytes_inBounds _ (by simp)]
    rfl
  refine ⟨rfl, ?_, rfl⟩
  rw [arraysOk, show State.reset.mmu.boot = bootImage from rfl, hboot]
  rfl

end Sys2Proof.Machine
end

section
/-! PROOFS. What every instruction has in common (spec 10_state.md sections 2 and 4; 30_encoding.md R72, R74): it is illegal, or
it is one operation on the state followed by a jump, and its target, count, flags and IME obey the whole-machine rules. Each family of the
opcode map is read once; the rules are read off that. -/

namespace Sys2Proof.Machine

/-! ### IME is read by no operation (10_state.md R16) -/

@[simp] theorem setReg_setIME (r : Reg8) (x : Byte) (v : Bool) (s : State) :
    setReg r x (setIME v s) = setIME v (setReg r x s) := by cases r <;> rfl
@[simp] theorem setFlags_setIME (u : FlagUpdate) (v : Bool) (s : State) :
    setFlags u (setIME v s) = setIME v (setFlags u s) := rfl
@[simp] theorem setSP_setIME (x : Word) (v : Bool) (s : State) : setSP x (setIME v s) = setIME v (setSP x s) := rfl
@[simp] theorem setPair_setIME (p : Pair) (x : Word) (v : Bool) (s : State) :
    setPair p x (setIME v s) = setIME v (setPair p x s) := by cases p <;> rfl
@[simp] theorem setStackPair_setIME (p : StackPair) (x : Word) (v : Bool) (s : State) :
    setStackPair p x (setIME v s) = setIME v (setStackPair p x s) := by cases p <;> rfl
@[simp] theorem getStackPair_setIME (p : StackPair) (v : Bool) (s : State) : getStackPair p (setIME v s) = getStackPair p s := by
  cases p <;> rfl
@[simp] theorem nextPC_setIME (len : Nat) (v : Bool) (s : State) : nextPC len (setIME v s) = nextPC len s := rfl
@[simp] theorem relativeTarget_setIME (e8 : Byte) (v : Bool) (s : State) :
    relativeTarget e8 (setIME v s) = relativeTarget e8 s := rfl
@[simp] theorem setIME_a (v : Bool) (s : State) : (setIME v s).cpu.a = s.cpu.a := rfl
@[simp] theorem setIME_c (v : Bool) (s : State) : (setIME v s).cpu.c = s.cpu.c := rfl
@[simp] theorem byteRead_setIME (n : Nat) (v : Bool) (s : State) (addr : Word) :
    byteRead n (setIME v s) addr = byteRead n s addr := rfl
@[simp] theorem wordRead_setIME (v : Bool) (s : State) (addr : Word) : wordRead (setIME v s) addr = wordRead s addr := rfl
@[simp] theorem operandByte_setIME (o : Operand8) (v : Bool) (s : State) : operandByte o (setIME v s) = operandByte o s := by
  cases o with
  | reg r => exact getReg_setIME r v s
  | atHL => rfl

@[simp] theorem read8_setIME (addr : Word) (v : Bool) (s : State) :
    (read8 addr (setIME v s)).2 = setIME v (read8 addr s).2 := by
  rw [read8_eq, read8_eq]
  rfl

@[simp] theorem write8_setIME (addr : Word) (x : Byte) (v : Bool) (s : State) :
    write8 addr x (setIME v s) = setIME v (write8 addr x s) := by
  show writePlace (placeOf s addr) x (setIME v s) = setIME v (writePlace (placeOf s addr) x s)
  cases placeOf s addr <;> rfl

@[simp] theorem write16_setIME (addr x : Word) (v : Bool) (s : State) :
    write16 addr x (setIME v s) = setIME v (write16 addr x s) := by
  simp [write16]

@[simp] theorem push16_setIME (x : Word) (v : Bool) (s : State) : push16 x (setIME v s) = setIME v (push16 x s) := by
  simp [push16]

@[simp] theorem pop16_setIME (v : Bool) (s : State) : (pop16 (setIME v s)).2 = setIME v (pop16 s).2 := by
  simp [pop16, read16]

@[simp] theorem readOperand_setIME (o : Operand8) (v : Bool) (s : State) :
    (readOperand o (setIME v s)).2 = setIME v (readOperand o s).2 := by
  cases o with
  | reg r => rfl
  | atHL => simp [readOperand]

@[simp] theorem writeOperand_setIME (o : Operand8) (x : Byte) (v : Bool) (s : State) :
    writeOperand o x (setIME v s) = setIME v (writeOperand o x s) := by
  cases o <;> simp [writeOperand]

@[simp] theorem putAcc_setIME (r : ByteResult) (v : Bool) (s : State) : putAcc r (setIME v s) = setIME v (putAcc r s) := rfl
@[simp] theorem putAcc_pc (r : ByteResult) (s : State) : (putAcc r s).cpu.pc = s.cpu.pc := rfl
@[simp] theorem putAcc_ime (r : ByteResult) (s : State) : (putAcc r s).cpu.ime = s.cpu.ime := rfl
@[simp] theorem accWith_setIME (op : AluOp) (x : Byte) (v : Bool) (s : State) :
    accWith op x (setIME v s) = setIME v (accWith op x s) := rfl
@[simp] theorem accWith_pc (op : AluOp) (x : Byte) (s : State) : (accWith op x s).cpu.pc = s.cpu.pc := rfl
@[simp] theorem accWith_ime (op : AluOp) (x : Byte) (s : State) : (accWith op x s).cpu.ime = s.cpu.ime := rfl
@[simp] theorem push16_f (x : Word) (s : State) : (push16 x s).cpu.f = s.cpu.f := by simp [push16]
@[simp] theorem push16_pc (x : Word) (s : State) : (push16 x s).cpu.pc = s.cpu.pc := by simp [push16]
@[simp] theorem push16_ime (x : Word) (s : State) : (push16 x s).cpu.ime = s.cpu.ime := by simp [push16]

/-! ### What an instruction that completes is -/

/-- Instruction `i` is the operation `f` on the state, then a jump to `target` in `m` cycles, which are those of the whole-machine rules:
1 to 6 cycles that depend on F alone; no jump but to the next instruction, and one count, unless `i` is a control transfer; F written
only by the instructions listed and IME only by DI, EI and RETI, and neither operation nor target reads IME. -/
structure Meaning (i : Instr) (target : State → Word) (m : Byte → Nat) (f : State → State) : Prop where
  exec_eq : ∀ s, exec i s = jumpTo (target s) (m s.cpu.f) (f s)
  cycles : ∀ b, 1 ≤ m b ∧ m b ≤ 6
  target_next : transferOpcodes.contains (firstByte i) = false → ∀ s, target s = nextPC (encode i).length s
  cycles_const : transferOpcodes.contains (firstByte i) = false → ∀ b b', m b = m b'
  flags : writesFlags i = false → ∀ s, (f s).cpu.f = s.cpu.f
  ime : i ≠ .di → i ≠ .ei → i ≠ .reti → ∀ s, (f s).cpu.ime = s.cpu.ime
  target_setIME : ∀ v s, target (setIME v s) = target s
  setIME : ∀ v s, ∃ w, f (setIME v s) = setIME w (f s)

/-- Instruction `i` goes on in every state. -/
def Completes (i : Instr) : Prop := ∃ target m f, Meaning i target m f

/-- An operation that leaves PC and IME alone and does not read IME; the state's own laws show it of an operation put together from the
model's. -/
structure Quiet (f : State → State) : Prop where
  pc : ∀ s, (f s).cpu.pc = s.cpu.pc := by simp
  ime : ∀ s, (f s).cpu.ime = s.cpu.ime := by simp
  setIME : ∀ v s, f (setIME v s) = setIME v (f s) := by simp

/-- An instruction with the default end, which is no control transfer (30_encoding.md R72). -/
theorem Completes.of_finish {i : Instr} {len m : Nat} {f : State → State} (hexec : ∀ s, exec i s = finish len m (f s))
    (hlen : (encode i).length = len) (hm : 1 ≤ m ∧ m ≤ 6) (hf : Quiet f)
    (hflags : writesFlags i = true ∨ ∀ s, (f s).cpu.f = s.cpu.f) : Completes i :=
  ⟨nextPC len, fun _ => m, f,
    { exec_eq := fun s => by rw [hexec, finish, nextPC_congr len (hf.pc s)]
      cycles := fun _ => hm
      target_next := fun _ s => by rw [hlen]
      cycles_const := fun _ _ _ => rfl
      flags := fun hno => hflags.resolve_left (by simp [hno])
      ime := fun _ _ _ => hf.ime
      target_setIME := fun _ _ => rfl
      setIME := fun v s => ⟨v, hf.setIME v s⟩ }⟩

/-- DI and EI (47_misc_control.md R213, R214). -/
theorem Completes.of_finish_setIME {i : Instr} {v : Bool} (hi : i = .di ∨ i = .ei)
    (hexec : ∀ s, exec i s = finish 1 1 (setIME v s)) (hlen : (encode i).length = 1) : Completes i :=
  ⟨nextPC 1, fun _ => 1, setIME v,
    { exec_eq := hexec
      cycles := fun _ => by decide
      target_next := fun _ s => by rw [hlen]
      cycles_const := fun _ _ _ => rfl
      flags := fun _ _ => rfl
      ime := fun hdi hei => absurd hi (not_or.2 ⟨hdi, hei⟩)
      target_setIME := fun _ _ => rfl
      setIME := fun _ _ => ⟨v, rfl⟩ }⟩

/-- A jump's target and the operation before it: neither reads IME, and F and IME stay (46_control_transfer.md: "No control transfer
changes F"). -/
structure Jump (target : State → Word) (f : State → State) : Prop where
  flags : ∀ s, (f s).cpu.f = s.cpu.f := by simp
  ime : ∀ s, (f s).cpu.ime = s.cpu.ime := by simp
  target_setIME : ∀ v s, target (setIME v s) = target s := by simp
  setIME : ∀ v s, f (setIME v s) = setIME v (f s) := by simp

/-- A control transfer that always jumps. -/
theorem Completes.of_jump {i : Instr} {target : State → Word} {m : Nat} {f : State → State}
    (hop : transferOpcodes.contains (firstByte i) = true) (hexec : ∀ s, exec i s = jumpTo (target s) m (f s))
    (hm : 1 ≤ m ∧ m ≤ 6) (h : Jump target f) : Completes i :=
  ⟨target, fun _ => m, f,
    { exec_eq := hexec
      cycles := fun _ => hm
      target_next := fun hno => absurd hop (by rw [hno]; decide)
      cycles_const := fun _ _ _ => rfl
      flags := fun _ => h.flags
      ime := fun _ _ _ => h.ime
      target_setIME := h.target_setIME
      setIME := fun v s => ⟨v, h.setIME v s⟩ }⟩

/-- A conditional transfer: taken in `m` cycles, or the next instruction in `m'` (46_control_transfer.md R190). -/
theorem Completes.of_conditional {i : Instr} {cc : Cond} {target : State → Word} {len m m' : Nat} {f : State → State}
    (hop : transferOpcodes.contains (firstByte i) = true)
    (hexec : ∀ s, exec i s = if cond cc s then jumpTo (target s) m (f s) else finish len m' s)
    (hm : 1 ≤ m ∧ m ≤ 6) (hm' : 1 ≤ m' ∧ m' ≤ 6) (h : Jump target f) : Completes i :=
  ⟨fun s => if specCond cc s.cpu.f then target s else nextPC len s, fun b => if specCond cc b then m else m',
    fun s => if specCond cc s.cpu.f then f s else s,
    { exec_eq := fun s => by rw [hexec, cond_eq_specCond]; split <;> rfl
      cycles := fun b => by split <;> assumption
      target_next := fun hno => absurd hop (by rw [hno]; decide)
      cycles_const := fun hno => absurd hop (by rw [hno]; decide)
      flags := fun _ s => by split; exacts [h.flags s, rfl]
      ime := fun _ _ _ s => by split; exacts [h.ime s, rfl]
      target_setIME := fun v s => by simp only [setIME_f, h.target_setIME, nextPC_setIME]
      setIME := fun v s => ⟨v, by simp only [setIME_f, h.setIME]; split <;> rfl⟩ }⟩

theorem operandCycles_bounds (o : Operand8) {m m' : Nat} (hm : 1 ≤ m ∧ m ≤ 6) (hm' : 1 ≤ m' ∧ m' ≤ 6) :
    1 ≤ operandCycles o m m' ∧ operandCycles o m m' ≤ 6 := by
  cases o with
  | reg r => exact hm
  | atHL => exact hm'

/-! ### The extended table -/

/-- The extended row's meaning is the shared operation that its fields select (30_encoding.md R76). -/
theorem exec_extendedInstr (ext : Byte) (s : State) : exec (extendedInstr ext) s = extended ext s := by
  unfold extendedInstr extended
  generalize fieldX ext = x
  match x with
  | 0 => exact exec_rotForm ..
  | 1 => exact exec_bitForm ..
  | 2 => exact exec_resForm ..
  | 3 => exact exec_setForm ..

theorem extWritesFlags_of_fieldX : ∀ ext : Byte, fieldX ext = 0 ∨ fieldX ext = 1 → extWritesFlags ext.toNat = true := by
  decide

/-- A term with an extended row's bytes and meaning: the row itself, and the term `prefix_CB` for it (log 8). -/
theorem completes_of_extended {i : Instr} {ext : Byte} (hexec : ∀ s, exec i s = extended ext s) (henc : encode i = [0xCB, ext]) :
    Completes i := by
  have hlen : (encode i).length = 2 := by rw [henc]; rfl
  have hwrites (h : fieldX ext = 0 ∨ fieldX ext = 1) : writesFlags i = true := by
    rw [writesFlags, henc]
    exact extWritesFlags_of_fieldX ext h
  unfold extended at hexec
  split at hexec
  case h_1 hx => exact .of_finish hexec hlen (operandCycles_bounds _ (by decide) (by decide)) {} (.inl (hwrites (.inl hx)))
  case h_2 hx => exact .of_finish hexec hlen (operandCycles_bounds _ (by decide) (by decide)) {} (.inl (hwrites (.inr hx)))
  case h_3 => exact .of_finish hexec hlen (operandCycles_bounds _ (by decide) (by decide)) {} (.inr (by simp))
  case h_4 => exact .of_finish hexec hlen (operandCycles_bounds _ (by decide) (by decide)) {} (.inr (by simp))

/-! ### The base table -/

theorem completes_of_nop {i : Instr} (hexec : ∀ s, exec i s = finish 1 1 s) (hlen : (encode i).length = 1) : Completes i :=
  .of_finish hexec hlen (by decide) {} (.inr fun _ => rfl)

theorem completes_jrCondForm (cc : Cond) (e8 : Byte) : Completes (jrCondForm cc e8) :=
  .of_conditional (by cases cc <;> rfl) (exec_jrCondForm cc e8) (by decide) (by decide) {}

theorem completes_jpCondForm (cc : Cond) (a16 : Word) : Completes (jpCondForm cc a16) :=
  .of_conditional (by cases cc <;> rfl) (exec_jpCondForm cc a16) (by decide) (by decide) {}

theorem jump_push (target : Word) (len : Nat) : Jump (fun _ => target) (fun s => push16 (nextPC len s) s) := {}

theorem jump_pop : Jump (fun s => (pop16 s).1) (fun s => (pop16 s).2) := {}

theorem completes_callCondForm (cc : Cond) (a16 : Word) : Completes (callCondForm cc a16) :=
  .of_conditional (by cases cc <;> rfl) (exec_callCondForm cc a16) (by decide) (by decide) (jump_push a16 3)

theorem completes_retCondForm (cc : Cond) : Completes (retCondForm cc) :=
  .of_conditional (by cases cc <;> rfl) (exec_retCondForm cc) (by decide) (by decide) jump_pop

theorem completes_rstForm (t : Fin 8) : Completes (rstForm t) :=
  .of_jump (by fin_cases t <;> rfl) (exec_rstForm t) (by decide) (jump_push _ 1)

theorem completes_reti : Completes .reti :=
  ⟨fun s => (pop16 s).1, fun _ => 4, fun s => setIME true (pop16 s).2,
    { exec_eq := fun _ => rfl
      cycles := fun _ => by decide
      target_next := nofun
      cycles_const := nofun
      flags := fun _ => by simp
      ime := fun _ _ h => absurd rfl h
      target_setIME := by simp
      setIME := fun _ _ => ⟨true, by simp; rfl⟩ }⟩

theorem completes_block0z0 (y : Fin 8) (d8 : Byte) (d16 : Word) : Completes (block0z0 y d8 d16) := by
  unfold block0z0
  split
  case h_1 => exact completes_of_nop (fun _ => rfl) rfl
  case h_2 => exact .of_finish (fun _ => rfl) rfl (by decide) {} (.inr (by simp))
  case h_3 => exact completes_of_nop (fun _ => rfl) rfl
  case h_4 => exact .of_jump rfl (fun _ => rfl) (by decide) {}
  all_goals exact completes_jrCondForm ..

theorem completes_block0z2 (y : Fin 8) : Completes (block0z2 y) := by
  unfold block0z2
  split <;> exact .of_finish (fun _ => rfl) rfl (by decide) {} (.inr (by simp))

theorem completes_block0z7 (y : Fin 8) : Completes (block0z7 y) := by
  unfold block0z7
  split <;> exact .of_finish (fun _ => rfl) rfl (by decide) {} (.inl rfl)

theorem completes_ldPairForm (p : Pair) (d16 : Word) : Completes (ldPairForm p d16) :=
  .of_finish (exec_ldPairForm p d16) (by rw [encode_ldPairForm]; rfl) (by decide) {} (.inr (by simp))

theorem completes_addHLForm (p : Pair) : Completes (addHLForm p) :=
  .of_finish (exec_addHLForm p) (by rw [encode_addHLForm]; rfl) (by decide) {} (.inl (by cases p <;> rfl))

theorem completes_incPairForm (p : Pair) : Completes (incPairForm p) :=
  .of_finish (exec_incPairForm p) (by rw [encode_incPairForm]; rfl) (by decide) {} (.inr (by simp))

theorem completes_decPairForm (p : Pair) : Completes (decPairForm p) :=
  .of_finish (exec_decPairForm p) (by rw [encode_decPairForm]; rfl) (by decide) {} (.inr (by simp))

theorem completes_incForm (o : Operand8) : Completes (incForm o) :=
  .of_finish (exec_incForm o) (by rw [encode_incForm]; rfl) (operandCycles_bounds o (by decide) (by decide)) {}
    (.inl (match o with
      | .reg r => by cases r <;> rfl
      | .atHL => rfl))

theorem completes_decForm (o : Operand8) : Completes (decForm o) :=
  .of_finish (exec_decForm o) (by rw [encode_decForm]; rfl) (operandCycles_bounds o (by decide) (by decide)) {}
    (.inl (match o with
      | .reg r => by cases r <;> rfl
      | .atHL => rfl))

theorem completes_ldImmForm (o : Operand8) (d8 : Byte) : Completes (ldImmForm o d8) := by
  cases o with
  | reg r =>
    exact .of_finish (exec_ldImmForm_reg r d8) (by rw [encode_ldImmForm_reg]; rfl) (by decide) {} (.inr (by simp))
  | atHL => exact .of_finish (exec_ldImmForm_atHL d8) rfl (by decide) {} (.inr (by simp))

theorem completes_block0 (op d8 : Byte) (d16 : Word) : Completes (block0 op d8 d16) := by
  unfold block0
  split
  · exact completes_block0z0 ..
  · exact completes_ldPairForm ..
  · exact completes_addHLForm ..
  · exact completes_block0z2 ..
  · exact completes_incPairForm ..
  · exact completes_decPairForm ..
  · exact completes_incForm ..
  · exact completes_decForm ..
  · exact completes_ldImmForm ..
  · exact completes_block0z7 ..

theorem completes_block1 (op : Byte) : Completes (block1 op) := by
  unfold block1
  split
  case h_1 r r' _ _ =>
    exact .of_finish (exec_ldForm r r') (by rw [encode_ldForm]; rfl) (by decide) {} (.inr (by simp))
  case h_2 r _ _ =>
    exact .of_finish (exec_ldFromHLForm r) (by rw [encode_ldFromHLForm]; rfl) (by decide) {} (.inr (by simp))
  case h_3 r _ _ =>
    exact .of_finish (exec_ldToHLForm r) (by rw [encode_ldToHLForm]; rfl) (by decide) {} (.inr (by simp))
  case h_4 => exact completes_of_nop (fun _ => rfl) rfl

theorem writesFlags_aluForm (op : AluOp) (o : Operand8) : writesFlags (aluForm op o) = true := by
  rcases o with r | _
  · cases op <;> cases r <;> rfl
  · cases op <;> rfl

theorem completes_aluForm (op : AluOp) (o : Operand8) : Completes (aluForm op o) :=
  .of_finish (exec_aluForm op o) (by rw [encode_aluForm]; rfl) (operandCycles_bounds o (by decide) (by decide))
    {} (.inl (writesFlags_aluForm op o))

theorem completes_aluImmForm (op : AluOp) (d8 : Byte) : Completes (aluImmForm op d8) :=
  .of_finish (exec_aluImmForm op d8) (by rw [encode_aluImmForm]; rfl) (by decide) {} (.inl (by cases op <;> rfl))

theorem completes_block3z0 (y : Fin 8) (d8 : Byte) : Completes (block3z0 y d8) := by
  unfold block3z0
  split
  case h_5 | h_7 => exact .of_finish (fun _ => rfl) rfl (by decide) {} (.inr (by simp))
  case h_6 | h_8 => exact .of_finish (fun _ => rfl) rfl (by decide) {} (.inl rfl)
  all_goals exact completes_retCondForm _

theorem completes_popForm (p : StackPair) : Completes (popForm p) :=
  .of_finish (exec_popForm p) (by rw [encode_popForm]; rfl) (by decide) {}
    (match p with
      | .bc | .de | .hl => .inr (by simp [setStackPair_f])
      | .af => .inl rfl)

theorem completes_pushForm (p : StackPair) : Completes (pushForm p) :=
  .of_finish (exec_pushForm p) (by rw [encode_pushForm]; rfl) (by decide) {} (.inr (by simp))

theorem completes_block3z1 (op : Byte) : Completes (block3z1 op) := by
  unfold block3z1
  split
  case h_1 => exact completes_popForm _
  case h_2 => exact .of_jump rfl (fun _ => rfl) (by decide) jump_pop
  case h_3 => exact completes_reti
  case h_4 => exact .of_jump rfl (fun _ => rfl) (by decide) {}
  case h_5 => exact .of_finish (fun _ => rfl) rfl (by decide) {} (.inr (by simp))

theorem completes_block3z2 (y : Fin 8) (d16 : Word) : Completes (block3z2 y d16) := by
  unfold block3z2
  split
  case h_5 | h_6 | h_7 | h_8 => exact .of_finish (fun _ => rfl) rfl (by decide) {} (.inr (by simp))
  all_goals exact completes_jpCondForm ..

/-- Instruction `i` obeys the whole-machine rules: it goes on in every state, or it is illegal and faults in every state. -/
def Obeys (i : Instr) : Prop :=
  Completes i ∨ firstByte i ∈ illegalOpcodes ∧ ∀ s, exec i s = raiseUnimplementedOpcode ((firstByte i).setWidth 16) s

theorem obeys_block3z3 (y : Fin 8) (d8 : Byte) (d16 : Word) : Obeys (block3z3 y d8 d16) := by
  unfold block3z3
  split
  case h_1 =>
    exact .inl (.of_jump rfl (fun _ => rfl) (by decide) {})
  case h_2 => exact .inl (completes_of_extended (fun _ => rfl) rfl)
  case h_7 => exact .inl (.of_finish_setIME (.inl rfl) (fun _ => rfl) rfl)
  case h_8 => exact .inl (.of_finish_setIME (.inr rfl) (fun _ => rfl) rfl)
  all_goals exact .inr ⟨by decide, fun _ => rfl⟩

theorem obeys_block3z4 (y : Fin 8) (d16 : Word) : Obeys (block3z4 y d16) := by
  unfold block3z4
  split
  case h_1 | h_2 | h_3 | h_4 => exact .inl (completes_callCondForm ..)
  all_goals exact .inr ⟨by decide, fun _ => rfl⟩

theorem obeys_block3z5 (op : Byte) (d16 : Word) : Obeys (block3z5 op d16) := by
  unfold block3z5
  split
  case h_1 => exact .inl (completes_pushForm _)
  case h_2 => exact .inl (.of_jump rfl (fun _ => rfl) (by decide) (jump_push d16 3))
  all_goals exact .inr ⟨by decide, fun _ => rfl⟩

theorem obeys_block3 (op d8 : Byte) (d16 : Word) : Obeys (block3 op d8 d16) := by
  unfold block3
  split
  · exact .inl (completes_block3z0 ..)
  · exact .inl (completes_block3z1 _)
  · exact .inl (completes_block3z2 ..)
  · exact obeys_block3z3 ..
  · exact obeys_block3z4 ..
  · exact obeys_block3z5 ..
  · exact .inl (completes_aluImmForm ..)
  · exact .inl (completes_rstForm _)

theorem obeys_baseInstr (op d8 : Byte) (d16 : Word) : Obeys (baseInstr op d8 d16) := by
  unfold baseInstr
  split
  · exact .inl (completes_block0 ..)
  · exact .inl (completes_block1 _)
  · exact .inl (completes_aluForm ..)
  · exact obeys_block3 ..

/-! ### Every instruction -/

/-- What the decoder answers is a row of one of the two tables. -/
theorem obeys_of_decode {bytes rest : List Byte} {i : Instr} (h : decode bytes = .ok (i, rest)) : Obeys i := by
  unfold decode at h
  split at h
  case h_1 => cases h
  case h_2 =>
    split at h <;> cases h
    case h_1 => exact obeys_baseInstr ..
    case h_2 b1 _ =>
      split
      case isTrue => exact .inl (completes_of_extended (exec_extendedInstr b1) (extendedInstr_row b1).2)
      case isFalse => exact obeys_baseInstr ..
    case h_3 => exact obeys_baseInstr ..

/-- Every instruction is a row of the tables, by the round trip, or the term `prefix_CB` (log 8). -/
theorem obeys (i : Instr) : Obeys i := by
  cases hwf : i.wf with
  | true => exact obeys_of_decode (decode_encode_append i [] hwf)
  | false =>
    unfold Instr.wf at hwf
    split at hwf
    case h_1 => exact .inl (completes_of_extended (fun _ => rfl) rfl)
    case h_2 => cases hwf

end Sys2Proof.Machine
end

section
/-! PROOFS. The fetch, the step and the whole-machine rules (spec 30_encoding.md R70 to R72, R79): what the fetch reads is
one instruction's encoding, a step runs it, and the rules of `Meaning` hold of every step. -/

namespace Sys2Proof.Machine

/-! ### The fetch -/

/-- The address after `addr` and `k` more. -/
theorem add_one_add_ofNat (addr : Word) (k : Nat) : addr + 1 + BitVec.ofNat 16 k = addr + BitVec.ofNat 16 (k + 1) := by
  rw [BitVec.ofNat_add, BitVec.add_assoc, BitVec.add_comm (BitVec.ofNat 16 k)]
  rfl

/-- The fetch is a read of as many bytes as the first one says (R70, R79). -/
theorem fetchInstr_eq_readBytes (s : State) :
    fetchInstr s = readBytes (instrLength (byteRead s.draws s s.cpu.pc) - 1 + 1) s.cpu.pc s := by
  rw [← read8_value]
  rfl

/-- A claimed address is fetched as a data read returns it (20_memory.md R55). -/
theorem readBytes_getD {n k : Nat} {addr : Word} {s : State} {v : Byte} (hk : k < n)
    (h : byteAt s (addr + BitVec.ofNat 16 k) = some v) : (readBytes n addr s).1.getD k 0 = v := by
  induction n generalizing addr k s with
  | zero => omega
  | succ n ih =>
    cases k with
    | zero =>
      have h0 : byteAt s addr = some v := by simpa using h
      simp [readBytes, byteRead, h0]
    | succ k =>
      rw [← add_one_add_ofNat, ← byteAt_read8 addr] at h
      simpa [readBytes] using ih (by omega) h

/-- Claimed addresses are read with no change at all (20_memory.md R40). -/
theorem readBytes_state_of_mapped {n : Nat} {addr : Word} {s : State}
    (h : ∀ k < n, byteAt s (addr + BitVec.ofNat 16 k) ≠ none) : (readBytes n addr s).2 = s := by
  induction n generalizing addr with
  | zero => rfl
  | succ n ih =>
    obtain ⟨v, hv⟩ := Option.ne_none_iff_exists'.1 (h 0 (by omega))
    have h0 : byteAt s addr = some v := by simpa using hv
    simp only [readBytes, read8_of_mapped h0]
    exact ih fun k hk => by rw [add_one_add_ofNat]; exact h (k + 1) (by omega)

/-- What the fetch reads is the encoding of the one instruction it decodes to (R60, R79). -/
theorem fetchInstr_encode (s : State) :
    ∃ i, (fetchInstr s).1 = encode i ∧ i.wf = true ∧ decode (fetchInstr s).1 = .ok (i, []) ∧
      firstByte i = byteRead s.draws s s.cpu.pc := by
  obtain ⟨i, hi⟩ := decode_fetchInstr s
  obtain ⟨hwf, henc⟩ := encode_of_decode hi
  rw [List.append_nil] at henc
  exact ⟨i, henc.symm, hwf, hi, by rw [firstByte, henc, ← read8_value]; rfl⟩

/-- Settles O5: the bytes are an encoding by `fetchInstr_encode`, and each is read as `readBytes_getD` says. -/
theorem fetchReadsInstruction : Obligations.FetchReadsInstruction := by
  intro s
  obtain ⟨i, henc, hwf, -, hfirst⟩ := fetchInstr_encode s
  obtain ⟨n, hstate⟩ := fetchInstr_state s
  have hread := fetchInstr_eq_readBytes s
  have hlen : (encode i).length = instrLength (byteRead s.draws s s.cpu.pc) - 1 + 1 := by rw [← henc, hread, readBytes_length]
  rw [← hlen] at hread
  refine ⟨i, n, henc, hwf, hfirst, fun k v hk hv => ?byte, hstate, fun hmapped => ?draws⟩
  case byte => rw [← henc, hread]; exact readBytes_getD hk hv
  case draws =>
    have hsame : (fetchInstr s).2 = s := by rw [hread]; exact readBytes_state_of_mapped hmapped
    have hdraws : s.draws + n = s.draws := congrArg State.draws (hstate.symm.trans hsame)
    omega

/-! ### The step -/

/-- An instruction's length is that of its first byte (R79). -/
theorem instrLength_firstByte {i : Instr} (h : i.wf = true) :
    ∃ op more, encode i = op :: more ∧ instrLength op = more.length + 1 := by
  have hd := decode_encode_append i [] h
  rw [List.append_nil] at hd
  match henc : encode i, hd with
  | op :: more, hd =>
    refine ⟨op, more, rfl, ?_⟩
    rcases Nat.lt_or_ge (more.length + 1) (instrLength op) with hshort | hlong
    · rw [decode_of_lt_instrLength hshort] at hd
      cases hd
    · obtain ⟨j, hj, -⟩ := decode_of_instrLength_le hlong
      rw [hj] at hd
      have hrest := List.drop_eq_nil_iff.1 (congrArg Prod.snd (Except.ok.inj hd))
      exact Nat.le_antisymm hlong hrest

/-- The bytes at PC are fetched where they are an instruction's encoding. -/
theorem fetchInstr_of_encode {s : State} {i : Instr} (hwf : i.wf = true)
    (h : ∀ k : Fin (encode i).length, byteAt s (s.cpu.pc + BitVec.ofNat 16 k.val) = some ((encode i).get k)) :
    fetchInstr s = (encode i, s) := by
  obtain ⟨op, more, henc, hlen⟩ := instrLength_firstByte hwf
  have hread := readBytes_mapped (encode i) s.cpu.pc s h
  rw [henc] at h hread ⊢
  have hop : byteAt s s.cpu.pc = some op := by simpa using h ⟨0, Nat.succ_pos _⟩
  rw [fetchInstr_eq_readBytes, byteRead, hop, Option.getD_some, hlen]
  exact hread

/-- Settles O4: the fetch reads the instruction's own bytes and changes nothing, and the decoder gives it back. -/
theorem stepRunsDecodedInstruction : Obligations.StepRunsDecodedInstruction := by
  intro s i hwf h
  have hdecode := decode_encode_append i [] hwf
  rw [List.append_nil] at hdecode
  rw [step, cpuStep, fetchInstr_of_encode hwf h]
  simp only [hdecode]
  cases exec i s <;> rfl

/-- Settles O6: an illegal opcode faults by `step_of_illegal`; what starts with any other byte obeys `Completes`. -/
theorem stepFaultsExactlyOnIllegalOpcodes : Obligations.StepFaultsExactlyOnIllegalOpcodes := by
  intro s
  split
  case isTrue hop => exact step_of_illegal hop
  case isFalse hop =>
    obtain ⟨i, -, -, hdecode, hfirst⟩ := fetchInstr_encode s
    rcases obeys i with ⟨target, m, f, hmeaning⟩ | ⟨hillegal, -⟩
    · rw [step, cpuStep, hdecode]
      exact ⟨_, by simp only [hmeaning.exec_eq]; rfl⟩
    · exact absurd (hfirst ▸ hillegal) hop

/-- An extended row completes in every state, two bytes on, in two cycles on a register and four on the byte at HL
(44_rotate_shift.md R164, 45_bit.md R181). -/
theorem extended_next (ext : Byte) (s : State) : ∃ t, extended ext s = .next t ∧ t.cpu.pc = s.cpu.pc + 2 ∧
    t.cycles = operandCycles (operandOfCode (fieldZ ext)) 2 4 := by
  unfold extended
  split <;> exact ⟨_, finish_eq .., by simp [nextPC], rfl⟩

theorem operandCycles_operandOfCode (z : Fin 8) (onReg onMem : Nat) :
    operandCycles (operandOfCode z) onReg onMem = if z.val = 6 then onMem else onReg := by
  fin_cases z <;> rfl

/-- Settles O8: the term `prefix_CB` and the extended row have one meaning, `extended`. -/
theorem prefixRunsExtendedInstruction : Obligations.PrefixRunsExtendedInstruction := by
  intro ext rest s
  obtain ⟨t, hnext, hpc, hcycles⟩ := extended_next ext s
  refine ⟨decode_two ext rest rfl, (extendedInstr_row ext).2, t, hnext, (exec_extendedInstr ext s).trans hnext, hpc, ?_⟩
  rw [hcycles, operandCycles_operandOfCode]
  rfl

/-! ### The whole-machine rules -/

/-- The state an instruction leads to is its operation's, then its jump's. -/
theorem meaning_of_next {i : Instr} {s t : State} (h : exec i s = .next t) :
    ∃ target m f, Meaning i target m f ∧ endAt (target s) (m s.cpu.f) (f s) = t := by
  rcases obeys i with ⟨target, m, f, hmeaning⟩ | ⟨-, hfault⟩
  · exact ⟨target, m, f, hmeaning, Host.Outcome.next.inj ((hmeaning.exec_eq s).symm.trans h)⟩
  · exact absurd (h.symm.trans (hfault s)) nofun

/-- Settles O27: the count is a function of the instruction and F, constant unless control is transferred. -/
theorem cyclesDependOnFlagsOnly : Obligations.CyclesDependOnFlagsOnly := by
  intro i s t s' t' h h'
  obtain ⟨target, m, f, hmeaning⟩ : Completes i := (obeys i).resolve_right fun ⟨_, hfault⟩ => nomatch h.symm.trans (hfault s)
  have hcycles {s t : State} (h : exec i s = .next t) : t.cycles = m s.cpu.f :=
    congrArg State.cycles (Host.Outcome.next.inj (h.symm.trans (hmeaning.exec_eq s)))
  obtain ⟨h1, h6⟩ := hmeaning.cycles s.cpu.f
  rw [hcycles h, hcycles h']
  refine ⟨h1, h6, fun hsame => ?_⟩
  rcases hsame with hno | hf
  · exact hmeaning.cycles_const hno _ _
  · exact congrArg m hf

/-- Settles O28: the target of what is no control transfer is the next instruction. -/
theorem onlyTransfersSetPC : Obligations.OnlyTransfersSetPC := by
  intro i s t h hno
  obtain ⟨target, m, f, hmeaning, rfl⟩ := meaning_of_next h
  exact hmeaning.target_next hno s

/-- Settles O29: the operation of what is no flag writer leaves F, and the jump does. -/
theorem onlyFlagWritersChangeF : Obligations.OnlyFlagWritersChangeF := by
  intro i s t h hno
  obtain ⟨target, m, f, hmeaning, rfl⟩ := meaning_of_next h
  exact hmeaning.flags hno s

/-! ### Two runs that differ in IME -/

/-- A result with its next state changed by `g`; a stop is passed on. -/
def mapNext (g : State → State) : Result → Result
  | .next t => .next (g t)
  | .fault r => .fault r
  | .refused r => .refused r

theorem exec_setIME (i : Instr) (v : Bool) (s : State) : ∃ w, exec i (setIME v s) = mapNext (setIME w) (exec i s) := by
  rcases obeys i with ⟨target, m, f, hmeaning⟩ | ⟨-, hfault⟩
  · obtain ⟨w, hw⟩ := hmeaning.setIME v s
    refine ⟨w, ?_⟩
    rw [hmeaning.exec_eq, hmeaning.exec_eq, hmeaning.target_setIME, hw]
    rfl
  · refine ⟨v, ?_⟩
    rw [hfault, hfault]
    rfl

/-- The fetch does not read IME. -/
theorem readBytes_setIME (n : Nat) (addr : Word) (v : Bool) (s : State) :
    readBytes n addr (setIME v s) = ((readBytes n addr s).1, setIME v (readBytes n addr s).2) := by
  induction n generalizing addr s with
  | zero => rfl
  | succ n ih => simp [readBytes, ih]

theorem fetchInstr_setIME (v : Bool) (s : State) : fetchInstr (setIME v s) = ((fetchInstr s).1, setIME v (fetchInstr s).2) := by
  rw [fetchInstr_eq_readBytes, fetchInstr_eq_readBytes, ← readBytes_setIME]
  rfl

theorem step_setIME (v : Bool) (s : State) : ∃ w, step (setIME v s) = mapNext (setIME w) (step s) := by
  obtain ⟨i, hdecode, hstep⟩ := step_eq s
  obtain ⟨i', hdecode', hstep'⟩ := step_eq (setIME v s)
  rw [fetchInstr_setIME] at hdecode' hstep'
  obtain rfl : i = i' := congrArg Prod.fst (Except.ok.inj (hdecode.symm.trans hdecode'))
  obtain ⟨w, hw⟩ := exec_setIME i v (fetchInstr s).2
  refine ⟨w, ?_⟩
  rw [hstep, hstep', hw]
  cases exec i (fetchInstr s).2 <;> rfl

/-- Settles O30: the first clause by `Meaning`, the two-run clauses by `step_setIME`. -/
theorem nothingReadsIME : Obligations.NothingReadsIME := by
  refine ⟨fun i s t h hdi hei hreti => ?keeps, fun v s t h => ?next, fun v s r h => ?fault⟩
  case keeps =>
    obtain ⟨target, m, f, hmeaning, rfl⟩ := meaning_of_next h
    exact hmeaning.ime hdi hei hreti s
  case next =>
    obtain ⟨w, hw⟩ := step_setIME v s
    exact ⟨w, by rw [hw, h]; rfl⟩
  case fault =>
    obtain ⟨w, hw⟩ := step_setIME v s
    rw [hw, h]
    rfl

end Sys2Proof.Machine
end

section
/-! PROOFS. NOP, STOP, HALT, DI and EI (spec 47_misc_control.md R210 to R214), and SP plus a signed byte (41_load16_stack.md R123,
43_alu16.md R153). -/

namespace Sys2Proof.Machine

/-- Settles O60: the first three are the default end alone; DI and EI write IME before it. -/
theorem noOperationsAndInterruptEnable : Obligations.NoOperationsAndInterruptEnable := by
  refine ⟨fun i op s hmem => ?plain, fun i op v s hmem => ?enable⟩
  case plain =>
    simp only [List.mem_cons, List.not_mem_nil, or_false, Prod.mk.injEq] at hmem
    rcases hmem with ⟨rfl, rfl⟩ | ⟨rfl, rfl⟩ | ⟨rfl, rfl⟩ <;> exact ⟨rfl, finish_spec 1 1 s⟩
  case enable =>
    have hspec : ∃ t, finish 1 1 (setIME v s) = .next t ∧ t.cpu.ime = v ∧ keepsRegs [] s t ∧ t.cpu.f = s.cpu.f ∧
        t.cpu.sp = s.cpu.sp ∧ keepsMemory s t ∧ goesOn 1 1 0 s t :=
      ⟨_, finish_eq .., rfl, fun q _ => by simp, rfl, rfl, keepsMemory_of_eq rfl rfl, goesOn_endAt rfl rfl⟩
    simp only [List.mem_cons, List.not_mem_nil, or_false, Prod.mk.injEq] at hmem
    rcases hmem with ⟨rfl, rfl, rfl⟩ | ⟨rfl, rfl, rfl⟩ <;> exact ⟨rfl, hspec⟩

/-- The signed sum as an integer reduced to 16 bits, and the flags of the unsigned low bytes (R123, R153). -/
theorem addSignedByte_value (sp : Word) (e8 : Byte) : (addSignedByte sp e8).value = specSPSum sp e8 := by
  rw [specSPSum, ofInt_toNat_add, ← sext8_eq_ofInt]
  rfl

theorem addSignedByte_flags (sp : Word) (e8 : Byte) {f : Byte} (hf : f &&& 0x0F = 0x00) :
    writeFlags (addSignedByte sp e8).flags f = specSPFlags sp e8 :=
  writeFlags_eq_packFlags _ hf

/-- The sum written to a pair with its flags: what the two instructions share. -/
theorem finish_addSignedByte_spec (p : Pair) (e8 : Byte) (m : Nat) {s : State} (hs : flagsOk s = true) :
    ∃ t, finish 2 m (setFlags (addSignedByte s.cpu.sp e8).flags (setPair p (addSignedByte s.cpu.sp e8).value s)) = .next t ∧
      onlyPair p (specSPSum s.cpu.sp e8) (specSPFlags s.cpu.sp e8) s t ∧ goesOn 2 m 0 s t := by
  refine ⟨_, finish_eq .., ?_, goesOn_endAt (by simp) (by simp)⟩
  rw [← addSignedByte_value, ← addSignedByte_flags _ _ (lowNibble_of_flagsOk hs)]
  exact ((onlyPair_setPair p _ s).trans_setFlags _).endAt ..

/-- Settles O40: both write the sum with its flags, to SP and to HL. -/
theorem addSignedByteToSP : Obligations.AddSignedByteToSP :=
  fun e8 _ hs => ⟨⟨rfl, rfl⟩, finish_addSignedByte_spec .sp e8 4 hs, finish_addSignedByte_spec .hl e8 3 hs⟩

end Sys2Proof.Machine
end

section
/-! PROOFS. DAA (spec 42_alu8.md R143, decision D24): its tests and correction by numbers, and that after a binary sum or difference of
packed bytes they leave the packed decimal one. -/

namespace Sys2Proof.Machine

/-! ### The correction -/

/-- Does DAA correct the low digit (R143). -/
def daaLow (a f : Byte) : Bool := testFlag .h f || (!testFlag .n f && decide (9 < a.toNat % 16))

/-- Does DAA correct the high digit (R143). -/
def daaHigh (a f : Byte) : Bool := testFlag .c f || (!testFlag .n f && decide (0x99 < a.toNat))

/-- The correction as a number. -/
def daaAdjust (a f : Byte) : Nat := (if daaLow a f then 0x06 else 0) + (if daaHigh a f then 0x60 else 0)

/-- DAA's two tests, its correction and its flags, by numbers (R143). -/
theorem daaByte_eq (a f : Byte) : daaByte a f =
    let t := if testFlag .n f then a - BitVec.ofNat 8 (daaAdjust a f) else a + BitVec.ofNat 8 (daaAdjust a f)
    { value := t, flags := { z := some (t == 0), n := none, h := some false, c := some (daaHigh a f) } } := by
  have hlow : (testFlag .h f || (!testFlag .n f && decide ((a &&& 0x0F).toNat > 0x09))) = daaLow a f := by
    rw [and_lowNibble_toNat, daaLow]
  have hadjust : ((if daaLow a f then 0x06 else 0x00) ||| (if daaHigh a f then 0x60 else 0x00) : Byte) =
      BitVec.ofNat 8 (daaAdjust a f) := by
    unfold daaAdjust
    cases daaLow a f <;> cases daaHigh a f <;> rfl
  rw [← hadjust, ← hlow]
  rfl

theorem daaAdjust_lt (a f : Byte) : daaAdjust a f < 256 := by
  unfold daaAdjust
  split_ifs <;> decide

theorem daaByte_value (a f : Byte) : ((daaByte a f).value.toNat : Int) =
    ((a.toNat : Int) + (if testFlag .n f then -1 else 1) * (daaAdjust a f : Int)) % 256 := by
  have := daaAdjust_lt a f
  rw [daaByte_eq]
  cases testFlag .n f with
  | false => simp
  | true => simp [BitVec.toNat_sub]; omega

theorem daaByte_flags (a : Byte) {f : Byte} (hf : f &&& 0x0F = 0x00) : writeFlags (daaByte a f).flags f =
    packFlags (decide ((daaByte a f).value = 0)) (testFlag .n f) false (daaHigh a f) := by
  rw [writeFlags_eq_packFlags _ hf, daaByte_eq]
  rfl

/-- Settles O47: the two tests and the correction by numbers, over A and F before. -/
theorem decimalAdjust : Obligations.DecimalAdjust := by
  intro s hs
  refine ⟨rfl, _, daaLow s.cpu.a s.cpu.f, daaHigh s.cpu.a s.cpu.f, rfl, by simp [daaLow], by simp [daaHigh], ?value, ?frame,
    goesOn_endAt rfl rfl⟩
  case value =>
    have hvalue := daaByte_value s.cpu.a s.cpu.f
    rw [daaAdjust] at hvalue
    push_cast at hvalue
    exact hvalue
  case frame => exact daaByte_flags s.cpu.a (lowNibble_of_flagsOk hs) ▸ (onlyRegs_setReg ..).flagsEnd ..

/-! ### Packed BCD -/

/-- The packed byte of a number with tens `p` and ones `q` (R143). -/
theorem bcd_of_digits {p q n : Int} (hp : 0 ≤ p ∧ p ≤ 9) (hq : 0 ≤ q ∧ q ≤ 9) (hn : n = 10 * p + q) :
    ((bcd n.toNat).toNat : Int) = 16 * p + q := by
  rw [bcd, BitVec.toNat_ofNat]
  omega

/-- After a binary sum of packed bytes, whose tens sum to `p` and whose ones to `q`, DAA leaves the packed sum and the decimal carry. -/
theorem daaByte_of_sum {p q : Int} (hp : 0 ≤ p ∧ p ≤ 18) (hq : 0 ≤ q ∧ q ≤ 19) {a f : Byte}
    (ha : (a.toNat : Int) = (16 * p + q) % 256) (hn : testFlag .n f = false) (hh : testFlag .h f = decide (15 < q))
    (hc : testFlag .c f = decide (255 < 16 * p + q)) :
    (daaByte a f).value = bcd ((10 * p + q) % 100).toNat ∧ daaHigh a f = decide (100 ≤ 10 * p + q) := by
  have hlow : daaLow a f = decide (10 ≤ q) := by
    simp only [daaLow, hn, hh, Bool.not_false, Bool.true_and, ← Bool.decide_or, decide_eq_decide]
    omega
  have hhigh : daaHigh a f = decide (100 ≤ 10 * p + q) := by
    simp only [daaHigh, hn, hc, Bool.not_false, Bool.true_and, ← Bool.decide_or, decide_eq_decide]
    omega
  have hdigits := bcd_of_digits (n := (10 * p + q) % 100)
    (p := p + (if 10 ≤ q then 1 else 0) - (if 100 ≤ 10 * p + q then 10 else 0)) (q := q - if 10 ≤ q then 10 else 0)
    (by split_ifs <;> omega) (by split_ifs <;> omega) (by split_ifs <;> omega)
  have hvalue := daaByte_value a f
  refine ⟨BitVec.eq_of_toNat_eq (Int.ofNat_inj.1 ?_), hhigh⟩
  rw [hdigits]
  simp only [hn, daaAdjust, hlow, hhigh, ha, decide_eq_true_eq, Bool.false_eq_true, if_false, one_mul, Nat.cast_add,
    Int.emod_add_emod] at hvalue
  split_ifs at hvalue <;> omega

/-- After a binary difference of packed bytes, whose tens differ by `p` and whose ones by `q`, DAA leaves the packed difference and the
decimal borrow. -/
theorem daaByte_of_difference {p q : Int} (hp : -9 ≤ p ∧ p ≤ 9) (hq : -10 ≤ q ∧ q ≤ 9) {a f : Byte}
    (ha : (a.toNat : Int) = (16 * p + q) % 256) (hn : testFlag .n f = true) (hh : testFlag .h f = decide (q < 0))
    (hc : testFlag .c f = decide (16 * p + q < 0)) :
    (daaByte a f).value = bcd ((10 * p + q) % 100).toNat ∧ daaHigh a f = decide (10 * p + q < 0) := by
  have hlow : daaLow a f = decide (q < 0) := by simp only [daaLow, hn, hh, Bool.not_true, Bool.false_and, Bool.or_false]
  have hhigh : daaHigh a f = decide (10 * p + q < 0) := by
    simp only [daaHigh, hn, hc, Bool.not_true, Bool.false_and, Bool.or_false, decide_eq_decide]
    omega
  have hdigits := bcd_of_digits (n := (10 * p + q) % 100)
    (p := p - (if q < 0 then 1 else 0) + (if 10 * p + q < 0 then 10 else 0)) (q := q + if q < 0 then 10 else 0)
    (by split_ifs <;> omega) (by split_ifs <;> omega) (by split_ifs <;> omega)
  have hvalue := daaByte_value a f
  refine ⟨BitVec.eq_of_toNat_eq (Int.ofNat_inj.1 ?_), hhigh⟩
  rw [hdigits]
  simp only [hn, daaAdjust, hlow, hhigh, ha, decide_eq_true_eq, if_true, Nat.cast_add, Int.emod_add_emod] at hvalue
  split_ifs at hvalue <;> omega

theorem bcd_toNat {n : Nat} (h : n < 100) : (bcd n).toNat = 16 * (n / 10) + n % 10 := by
  rw [bcd, BitVec.toNat_ofNat]
  omega

/-- The binary sum of two packed bytes, with its flags, is what DAA corrects (R131, R132, R143). -/
theorem daaByte_addBytes {x y : Nat} (hx : x < 100) (hy : y < 100) (k : Bool) {f old : Byte}
    (hf : f = writeFlags (addBytes (bcd x) (bcd y) k).flags old) :
    (daaByte (addBytes (bcd x) (bcd y) k).value f).value = bcd ((x + y + bitNat k) % 100) ∧
      daaHigh (addBytes (bcd x) (bcd y) k).value f = decide (100 ≤ x + y + bitNat k) := by
  have hk := bitNat_lt_two k
  have hxn := bcd_toNat hx
  have hyn := bcd_toNat hy
  have hflag (q : Flag) := hf ▸ testFlag_writeFlags q (addBytes (bcd x) (bcd y) k).flags old
  have hvalue : (addBytes (bcd x) (bcd y) k).value.toNat = ((bcd x).toNat + (bcd y).toNat + bitNat k) % 256 :=
    BitVec.toNat_ofNat ..
  obtain ⟨hbcd, hcarry⟩ := daaByte_of_sum (p := x / 10 + y / 10) (q := x % 10 + y % 10 + bitNat k)
    (a := (addBytes (bcd x) (bcd y) k).value) (f := f) (by omega) (by omega) (by omega) (hflag .n)
    ((hflag .h).trans (decide_eq_decide.2 (by omega))) ((hflag .c).trans (decide_eq_decide.2 (by omega)))
  exact ⟨hbcd.trans (congrArg bcd (by omega)), hcarry.trans (decide_eq_decide.2 (by omega))⟩

/-- The binary difference of two packed bytes, with its flags, is what DAA corrects (R133, R134, R143). -/
theorem daaByte_subBytes {x y : Nat} (hx : x < 100) (hy : y < 100) (k : Bool) {f old : Byte}
    (hf : f = writeFlags (subBytes (bcd x) (bcd y) k).flags old) :
    (daaByte (subBytes (bcd x) (bcd y) k).value f).value = bcd ((100 + x - y - bitNat k) % 100) ∧
      daaHigh (subBytes (bcd x) (bcd y) k).value f = decide (x < y + bitNat k) := by
  have hk := bitNat_lt_two k
  have hxn := bcd_toNat hx
  have hyn := bcd_toNat hy
  have hflag (q : Flag) := hf ▸ testFlag_writeFlags q (subBytes (bcd x) (bcd y) k).flags old
  have hvalue : (subBytes (bcd x) (bcd y) k).value.toNat =
      (0x200 + (bcd x).toNat - (bcd y).toNat - bitNat k) % 0x100 % 256 := BitVec.toNat_ofNat ..
  obtain ⟨hbcd, hborrow⟩ := daaByte_of_difference (p := x / 10 - y / 10) (q := x % 10 - y % 10 - bitNat k)
    (a := (subBytes (bcd x) (bcd y) k).value) (f := f) (by omega) (by omega) (by omega) (hflag .n)
    ((hflag .h).trans (decide_eq_decide.2 (by omega))) ((hflag .c).trans (decide_eq_decide.2 (by omega)))
  exact ⟨hbcd.trans (congrArg bcd (by omega)), hborrow.trans (decide_eq_decide.2 (by omega))⟩

/-- DAA leaves in A and in C what `daaByte` computes (R143). -/
theorem exec_daa (s : State) : ∃ u, exec .daa s = .next u ∧ u.cpu.a = (daaByte s.cpu.a s.cpu.f).value ∧
    flagOf .c u = daaHigh s.cpu.a s.cpu.f := by
  refine ⟨_, rfl, rfl, ?_⟩
  show testFlag .c (writeFlags (daaByte s.cpu.a s.cpu.f).flags s.cpu.f) = _
  rw [testFlag_writeFlags, daaByte_eq]
  rfl

/-- Settles O48: ADC and SBC leave the binary result with its flags, which DAA corrects. -/
theorem decimalAdjustMakesBcd : Obligations.DecimalAdjustMakesBcd := by
  intro x y s hx hy ha
  refine ⟨?sum, ?difference⟩
  case sum =>
    obtain ⟨hbcd, hcarry⟩ := daaByte_addBytes hx hy (flagOf .c s) (old := s.cpu.f) rfl
    rw [← ha] at hbcd hcarry
    obtain ⟨u, hu, hua, huc⟩ := exec_daa (endAt (nextPC 2 s) 2 (accWith .adc (bcd y) s))
    exact ⟨_, u, rfl, hu, hua.trans hbcd, huc.trans hcarry⟩
  case difference =>
    obtain ⟨hbcd, hborrow⟩ := daaByte_subBytes hx hy (flagOf .c s) (old := s.cpu.f) rfl
    rw [← ha] at hbcd hborrow
    obtain ⟨u, hu, hua, huc⟩ := exec_daa (endAt (nextPC 2 s) 2 (accWith .sbc (bcd y) s))
    exact ⟨_, u, rfl, hu, hua.trans hbcd, huc.trans hborrow⟩

end Sys2Proof.Machine
end
